-- ==== Sys2Proof/Word.lean ====
section
/-! DEFINITION. Bytes and byte sequences of a fixed length (spec/00_scope.md R10, R11). -/

namespace Sys2Proof

/-- A byte: 8 bits, unsigned, bit 0 the least significant (R10). -/
abbrev Byte := BitVec 8

/-- A 16-bit unsigned value: the CRC, a word of the CRC table (R10, R106). -/
abbrev Word := BitVec 16

/-- A byte sequence of exactly `n` bytes, index 0 first (R11). -/
abbrev Bytes (n : Nat) := { l : List Byte // l.length = n }

/-- The 9-byte actuator payload of a command, or the 9 status bytes of an incoming frame (R7 `PAYLOAD_LEN`). -/
abbrev Payload := Bytes 9

/-- A 16-byte frame, offset 0 first (R7 `FRAME_LEN`). -/
abbrev Frame := Bytes 16

/-- The `n` bytes `f 0, f 1, ...` in order. -/
def Bytes.ofFn (n : Nat) (f : Nat → Byte) : Bytes n :=
  ⟨(List.range n).map f, by simp⟩

end Sys2Proof
end

