-- ==== Sys2Proof/Config.lean ====
section
/-! DEFINITION. The protocol constants (spec/00_scope.md R7, R9) and the parameters of one copy of the block
(spec/00_scope.md R8, spec/92_eei_decisions.md D7). -/

namespace Sys2Proof.Config

/-- `POLY`, the generator polynomial, its x^16 term implied (R7). -/
def poly : Word := 0x8005
/-- `CRC_INIT` (R7). -/
def crcInit : Word := 0x0000
/-- `FRAME_LEN` (R7). -/
def frameLen : Nat := 16
/-- `PAYLOAD_LEN` (R7). -/
def payloadLen : Nat := 9
/-- `STX_OUT`, byte 0 of an outgoing frame (R7). -/
def stxOut : Byte := 0x22
/-- `LEN_MARK`, byte 1 of an outgoing frame, a marker and not a length (R7, R73). -/
def lenMark : Byte := 0x10
/-- `ADDR`, byte 2 of every frame `SEND` builds (R7, R72). -/
def addr : Byte := 0x03
/-- `CMD`, byte 3 of every frame `SEND` builds (R7, R72). -/
def cmd : Byte := 0x85
/-- `ETX_OUT`, byte 15 of an outgoing frame (R7). -/
def etxOut : Byte := 0x33
/-- `STX_IN`, byte 0 of an incoming frame, the resynchronisation marker (R7). -/
def stxIn : Byte := 0x44
/-- `STATUS_OFF`, offset of the first status byte (R7). -/
def statusOff : Nat := 4
/-- `TRIGB_OFF`, the frame offset channel B's trigger tests (R7). -/
def trigbOff : Nat := 10
/-- `TRIGB_VAL` (R7). -/
def trigbVal : Byte := 0x04
/-- `ZERO9`, the payload of the reset and poll commands (R7). -/
def zero9 : Payload := ⟨[0, 0, 0, 0, 0, 0, 0, 0, 0], rfl⟩
/-- `TICK_MS` (R7). -/
def tickMs : Nat := 100
/-- `BREAK_DELAY_MS` (R7). -/
def breakDelayMs : Nat := 1000
/-- `TB_MS`, milliseconds a timebase strobe stands for (R9). -/
def tbMs : Nat := 1
/-- `TICK_DIV = TICK_MS / TB_MS`, strobes per tick (R9). -/
def tickDiv : Nat := tickMs / tbMs
/-- `BREAK_DIV = BREAK_DELAY_MS / TB_MS`, strobes from entering `Breaking` to the deferred reset (R9). -/
def breakDiv : Nat := breakDelayMs / tbMs

/-- The parameters one copy of the block is built with; no event writes them (R8, R31). -/
structure Params where
  /-- `REF_A`, channel A's reference frame. -/
  refA : Frame
  /-- `VAC_A`, channel A's vacuum-on and hold payload. -/
  vacA : Payload
  /-- `BRK_A`, channel A's break payload. -/
  brkA : Payload
  /-- `VAC_B`, channel B's vacuum-on and hold payload. -/
  vacB : Payload
  /-- `BRK_B`, channel B's break payload. -/
  brkB : Payload
  /-- `EVAL_GATED`, the optional parameter of D7: frames are evaluated only while automation runs. Default true. -/
  evalGated : Bool
  deriving DecidableEq, Repr

/-! The configured values of the five parameters have no value in the source (R8). They are free values: opaque
constants, so no proof can see them. DESIGN CHOICE, log 11; safe. -/

/-- The bytes of the configured `REF_A`. -/
opaque refAByte : Nat → Byte
/-- The bytes of the configured `VAC_A`. -/
opaque vacAByte : Nat → Byte
/-- The bytes of the configured `BRK_A`. -/
opaque brkAByte : Nat → Byte
/-- The bytes of the configured `VAC_B`. -/
opaque vacBByte : Nat → Byte
/-- The bytes of the configured `BRK_B`. -/
opaque brkBByte : Nat → Byte

/-- The configuration the block holds after reset: the configured values (R36), `EVAL_GATED` at its default (D7;
DESIGN CHOICE, log 12). -/
def configured : Params where
  refA := Bytes.ofFn 16 refAByte
  vacA := Bytes.ofFn 9 vacAByte
  brkA := Bytes.ofFn 9 brkAByte
  vacB := Bytes.ofFn 9 vacBByte
  brkB := Bytes.ofFn 9 brkBByte
  evalGated := true

end Sys2Proof.Config
end

