-- ==== Sys2Proof/Syntax.lean ====
section
/-! DEFINITION. The instructions: one constructor per row of spec/opcode_table.json (spec/30_encoding.md R79, R80),
the formats of that table, and what a decoder can object to. -/

namespace Sys2Proof

/-- The rows of the opcode table: eleven events (format EVT), five internal functions (FN), six frame rows (TX16, RX16). -/
inductive Instr where
  /-- op 0x1, R191. -/
  | connect
  /-- op 0x2, R192. -/
  | disconnect
  /-- op 0x3, R193. -/
  | start
  /-- op 0x4, R194. -/
  | stop
  /-- op 0x5, R195: exactly 9 payload bytes. -/
  | sendcmd (payload : Payload)
  /-- op 0x6, R196: exactly 16 bytes. -/
  | sendraw (bytes : Frame)
  /-- op 0x7, R129: one chunk of any length. -/
  | rx (chunk : List Byte)
  /-- op 0x8, R130. -/
  | rxfail
  /-- op 0x9, R174. -/
  | tb
  /-- op 0xA, R171. -/
  | tick
  /-- op 0xB, R151. -/
  | fire
  /-- fn 0, R104: a byte sequence of any length. -/
  | crc16 (bytes : List Byte)
  /-- fn 1, R120. The payload is a sequence of any length, so that the contract violation of R121 can be written. -/
  | encode (addr cmd : Byte) (payload : List Byte)
  /-- fn 2, R123: works on `rxbuf` in place. -/
  | decode
  /-- fn 3, R144: one decoded frame. -/
  | eval (frame : Frame)
  /-- fn 4, R131. -/
  | send (payload : Payload)
  /-- Row TXFRAME, R70: an outgoing frame with ADDR 0x03 and CMD 0x85; the CRC bytes are free bits of the row's word. -/
  | txframe (payload : Payload) (crcHi crcLo : Byte)
  /-- Row TXFRAME.ENCODE, R120: an outgoing frame with any ADDR and CMD. -/
  | txframeEncode (addr cmd : Byte) (payload : Payload) (crcHi crcLo : Byte)
  /-- Row TXFRAME.POLL, R90: the reset and poll frame, all 128 bits fixed. -/
  | txframePoll
  /-- Row RXFRAME, R74: an incoming frame. -/
  | rxframe (frame : Frame)
  /-- Row RXFRAME.TRIGB, R142: an incoming frame whose offset 10 is 0x04. -/
  | rxframeTrigb (frame : Frame)
  /-- Row RXFRAME.TRIGA, R143: the incoming frame that equals the parameter `REF_A`. -/
  | rxframeTriga
  deriving DecidableEq, Repr

/-- The format of a word of the opcode table (its column "format"). -/
inductive Fmt where
  /-- An event, in the script byte form of R89. -/
  | evt
  /-- An internal function: a byte holding the 3-bit `fn`, then its operands (log 4). -/
  | fn
  /-- A 16-byte outgoing frame, offset 0 first (R70). -/
  | tx16
  /-- A 16-byte incoming frame, offset 0 first (R74). -/
  | rx16
  /-- The RX16 word whose bytes are the configured `REF_A` (row RXFRAME.TRIGA); it carries no bytes of its own (log 8). -/
  | rx16Ref
  deriving DecidableEq, Repr

/-- Why a decoder reads no instruction. -/
inductive DecodeError where
  /-- There is no byte to read: no event is waiting. -/
  | noWord
  /-- An event byte with a non-zero high nibble (R89). -/
  | highNibble (b : Byte)
  /-- An event byte with a reserved op: 0x0, 0xC to 0xF (R84, R89). -/
  | reservedOp (b : Byte)
  /-- A function byte that is no listed `fn`: 5 to 7 reserved, above 7 no 3-bit value (R84). -/
  | reservedFn (b : Byte)
  /-- The operand bytes end early (R80, R89). -/
  | truncated
  /-- A word presented as TX16 without STX 0x22, LEN 0x10 or ETX 0x33 at its place (R70). -/
  | notTx16
  /-- A word presented as RX16 whose offset 0 is not 0x44 (R74). -/
  | notRx16
  deriving DecidableEq, Repr

/-- What a decoder answers: an instruction and the bytes after it, or why there is none. -/
inductive Decoded where
  | ok (i : Instr) (rest : List Byte)
  | bad (why : DecodeError)
  deriving DecidableEq, Repr

/-- The number of bytes of an instruction's word in its format (R89 for events, log 4 for functions, 16 for a frame). -/
def Instr.size : Instr → Nat
  | .connect => 1
  | .disconnect => 1
  | .start => 1
  | .stop => 1
  | .sendcmd _ => 10
  | .sendraw _ => 17
  | .rx chunk => 2 + chunk.length
  | .rxfail => 1
  | .tb => 1
  | .tick => 1
  | .fire => 1
  | .crc16 bytes => 2 + bytes.length
  | .encode _ _ payload => 3 + payload.length
  | .decode => 1
  | .eval _ => 17
  | .send _ => 10
  | .txframe _ _ _ => 16
  | .txframeEncode _ _ _ _ _ => 16
  | .txframePoll => 16
  | .rxframe _ => 16
  | .rxframeTrigb _ => 16
  | .rxframeTriga => 0

/-- The format an instruction's word has in the opcode table. -/
def Instr.fmt : Instr → Fmt
  | .connect => .evt
  | .disconnect => .evt
  | .start => .evt
  | .stop => .evt
  | .sendcmd _ => .evt
  | .sendraw _ => .evt
  | .rx _ => .evt
  | .rxfail => .evt
  | .tb => .evt
  | .tick => .evt
  | .fire => .evt
  | .crc16 _ => .fn
  | .encode _ _ _ => .fn
  | .decode => .fn
  | .eval _ => .fn
  | .send _ => .fn
  | .txframe _ _ _ => .tx16
  | .txframeEncode _ _ _ _ _ => .tx16
  | .txframePoll => .tx16
  | .rxframe _ => .rx16
  | .rxframeTrigb _ => .rx16
  | .rxframeTriga => .rx16Ref

end Sys2Proof
end

