-- ==== Sys2Proof/Machine/State.lean ====
section
/-! DEFINITION. The state of the block (spec/10_state.md R20 to R38), its outputs (R32), why a step can stop, and reset. -/

namespace Sys2Proof.Machine

/-- The automation state of one channel (R25), in the source's order; R25 encodes them 0 to 3. -/
inductive ChState where
  | idle
  | vacuumsOn
  | readyForBreak
  | breaking
  deriving DecidableEq, Repr

/-- The two channels (R140). -/
inductive Chan where
  | a
  | b
  deriving DecidableEq, Repr

/-- A deferred break-then-reset action: its channel and the strobes left (R29, R150). -/
structure Pending where
  ch : Chan
  remaining : Nat
  deriving DecidableEq, Repr

/-- The codes of abnormal conditions (spec/60_exceptions.md R210). -/
inductive ErrCode where
  /-- 1, `E_PAYLEN`: ENCODE with a payload whose length is not 9. Never reported: the call has no result (R121). -/
  | payLen
  /-- 2, `E_IO_RD`: one read event of the transport failed (R130, R212). -/
  | ioRd
  /-- 3, `E_IO_WR`: one write to the transport failed (R213). -/
  | ioWr
  deriving DecidableEq, Repr

/-- One item of the output trace (R32). -/
inductive Output where
  /-- One transport write. -/
  | tx (bytes : Frame)
  /-- One delivery to the analysis sink: the raw frame and its nine status bytes. -/
  | sink (frame : Frame) (status : Payload)
  /-- One error report. -/
  | report (code : ErrCode)
  deriving DecidableEq, Repr

/-- What a function row of the opcode table returned (R79, column "result"). The model's own type (log 5). -/
inductive FnResult where
  | none
  | crc (value : Word)
  | frame (value : Frame)
  | frames (value : List Frame)
  deriving DecidableEq, Repr

/-- The state. The first seven fields are the registers of R20. -/
structure State where
  /-- `open`: a session is connected (R23). -/
  isOpen : Bool
  /-- `running`: automation is active (R24). -/
  running : Bool
  /-- `chA` (R25). -/
  chA : ChState
  /-- `chB` (R25). -/
  chB : ChState
  /-- `rxbuf`: received bytes not yet consumed (R27). -/
  rxbuf : List Byte
  /-- `tick_cnt`: strobes since the last tick or since `START`, 0 to 99 (R28). -/
  tickCnt : Nat
  /-- `pending`: deferred actions armed and not yet fired, oldest first (R29). -/
  pending : List Pending
  /-- The parameters, which no event writes (R31). -/
  cfg : Config.Params
  /-- The output trace `O`, oldest item first (R32). -/
  trace : List Output
  /-- The model's own: what the last function row run as an instruction returned (log 5). -/
  result : FnResult
  /-- The model's own: the bytes of the events the environment has still to present, in the form of R89 (log 1). -/
  script : List Byte
  /-- The model's own: the format of the word at the head of `script` (log 3). -/
  inFmt : Fmt
  /-- The model's own: the environment's marks of the coming transport writes, `true` for one that fails; none left
  means the write is not marked (R213, log 13). -/
  writeMarks : List Bool
  deriving DecidableEq, Repr

/-- The block has no fault: nothing traps, nothing vectors (R222 to R224), so no constructor. -/
inductive Fault where
  deriving DecidableEq, Repr

/-- Why a step is refused. -/
inductive Refusal where
  /-- Raised by `exec` for an instruction that has no meaning yet; no arm raises it. Safe. -/
  | notModelled (mnemonic : String)
  /-- Raised by `step` when the bytes of the script are no instruction (R84, R89; spec/93_implementation_defined.md U13).
  Safe: the spec gives such a script no run. -/
  | illFormedScript (why : DecodeError)
  /-- Raised by `ENCODE` with a payload of `len` bytes, `len` not 9: no frame and no next state (R121, U1). Safe. -/
  | contractViolation (len : Nat)
  deriving DecidableEq, Repr

/-- The state after reset (R36). The last four fields are the model's own (DESIGN CHOICE, logs 1, 3, 5, 13). -/
def State.reset : State where
  isOpen := false
  running := false
  chA := .idle
  chB := .idle
  rxbuf := []
  tickCnt := 0
  pending := []
  cfg := Config.configured
  trace := []
  result := .none
  script := []
  inFmt := .evt
  writeMarks := []

end Sys2Proof.Machine
end

