-- ==== Sys2Proof/Machine/Flags.lean ====
section
/-! DEFINITION. What the flags `open`, `running` and the channel states gate (spec/60_exceptions.md R230), and the
optional status port (R233). -/

namespace Sys2Proof.Machine

/-- Decoded frames reach `EVAL`: only while automation runs (R129, R24), unless the optional parameter `EVAL_GATED` is
false (spec/92_eei_decisions.md D7). -/
def State.evalEnabled (s : State) : Bool := s.running || !s.cfg.evalGated

/-- A channel is held by the scheduler: `VacuumsOn` or `ReadyForBreak`, not `Breaking` (R171, R173). -/
def isHeld : ChState → Bool
  | .idle => false
  | .vacuumsOn => true
  | .readyForBreak => true
  | .breaking => false

/-- What an implementation may expose on the port `status` (R233, R34). -/
structure StatusPort where
  isOpen : Bool
  running : Bool
  chA : ChState
  chB : ChState
  deriving DecidableEq, Repr

/-- The optional status output (R233). -/
def State.statusPort (s : State) : StatusPort := ⟨s.isOpen, s.running, s.chA, s.chB⟩

end Sys2Proof.Machine
end

