-- ==== Sys2Proof/WellFormed.lean ====
section
/-! DEFINITION. Which instructions are well formed: operands of the length the spec gives, sequences that fit their
length byte, and frame rows that are not another, more special row of the table. -/

namespace Sys2Proof

/-- A byte sequence fits the one length byte of its word, 0 to 255 (R89). -/
def fitsLengthByte (l : List Byte) : Bool := l.length ≤ 255

/-- The incoming frame starts with the marker 0x44 (R74). -/
def startsWithMarker (f : Frame) : Bool := f.1.head? == some Config.stxIn

/-- Offset 10 of the frame holds 0x04 (R142). -/
def hasTrigbByte (f : Frame) : Bool := f.1[Config.trigbOff]? == some Config.trigbVal

/-- The payload and CRC bytes of the fully fixed row TXFRAME.POLL (R90). -/
def isPollBody (payload : Payload) (crcHi crcLo : Byte) : Bool :=
  payload == Config.zero9 && crcHi == 0x52 && crcLo == 0xD9

/-- ADDR and CMD are the ones of the observed protocol variant, so the frame's row is TXFRAME (R72). -/
def isFixedHeader (addr cmd : Byte) : Bool := addr == Config.addr && cmd == Config.cmd

/-- An instruction is well formed: `RX` and `CRC16` sequences fit their length byte (R89), `ENCODE` has exactly nine
payload bytes (R120, R121), an evaluated frame starts with 0x44 (R144, R74), and a frame row's word is not one of a
row that fixes more bits (log 9). -/
def Instr.wellFormed : Instr → Bool
  | .connect => true
  | .disconnect => true
  | .start => true
  | .stop => true
  | .sendcmd _ => true
  | .sendraw _ => true
  | .rx chunk => fitsLengthByte chunk
  | .rxfail => true
  | .tb => true
  | .tick => true
  | .fire => true
  | .crc16 bytes => fitsLengthByte bytes
  | .encode _ _ payload => payload.length == Config.payloadLen
  | .decode => true
  | .eval f => startsWithMarker f
  | .send _ => true
  | .txframe p hi lo => !isPollBody p hi lo
  | .txframeEncode a c _ _ _ => !isFixedHeader a c
  | .txframePoll => true
  | .rxframe f => startsWithMarker f && !hasTrigbByte f
  | .rxframeTrigb f => startsWithMarker f && hasTrigbByte f
  | .rxframeTriga => true

end Sys2Proof
end

