-- ==== Sys2Proof/Decode.lean ====
section
/-! DEFINITION. The decoder, total on any bytes, and the encoder. Events have the byte form of spec/30_encoding.md R89;
frames are their 16 bytes, offset 0 first (R70, R74); functions have the model's byte form (log 4). -/

namespace Sys2Proof

/-- The first `n` bytes and the rest, or `none` when there are fewer. -/
def takeBytes (n : Nat) (bs : List Byte) : Option (Bytes n × List Byte) :=
  if h : n ≤ bs.length then some (⟨bs.take n, by simp [h]⟩, bs.drop n) else none

/-- A length byte and that many bytes (R89, the operand of `RX`). -/
def takeCounted : List Byte → Option (List Byte × List Byte)
  | [] => none
  | n :: bs => (takeBytes n.toNat bs).map fun (p, rest) => (p.1, rest)

/-- Read an operand, or object that the word is too short. -/
def withOperand {α : Type} (operand : Option (α × List Byte)) (mk : α → Instr) : Decoded :=
  match operand with
  | some (a, rest) => .ok (mk a) rest
  | none => .bad .truncated

/-- The events (R79, R84, R89): one byte `0x0N` with `N` the op, then the operand. -/
def decodeEvt : List Byte → Decoded
  | [] => .bad .noWord
  | b :: bs =>
    match b.toNat with
    | 0x1 => .ok .connect bs
    | 0x2 => .ok .disconnect bs
    | 0x3 => .ok .start bs
    | 0x4 => .ok .stop bs
    | 0x5 => withOperand (takeBytes 9 bs) .sendcmd
    | 0x6 => withOperand (takeBytes 16 bs) .sendraw
    | 0x7 => withOperand (takeCounted bs) .rx
    | 0x8 => .ok .rxfail bs
    | 0x9 => .ok .tb bs
    | 0xA => .ok .tick bs
    | 0xB => .ok .fire bs
    | n => if n < 16 then .bad (.reservedOp b) else .bad (.highNibble b)

/-- The internal functions (R79, R84): one byte with the 3-bit `fn`, then the operands (log 4). -/
def decodeFn : List Byte → Decoded
  | [] => .bad .noWord
  | b :: bs =>
    match b.toNat with
    | 0 => withOperand (takeCounted bs) .crc16
    | 1 =>
      match bs with
      | a :: c :: bs' => withOperand (takeBytes 9 bs') fun p => .encode a c p.1
      | _ => .bad .truncated
    | 2 => .ok .decode bs
    | 3 => withOperand (takeBytes 16 bs) .eval
    | 4 => withOperand (takeBytes 9 bs) .send
    | _ => .bad (.reservedFn b)

/-- Which TX16 row a frame's fields belong to: the row that fixes the most bits (R70, R72, R90; log 9). -/
def tx16Row (a c : Byte) (p : Payload) (hi lo : Byte) : Instr :=
  if isFixedHeader a c then
    if isPollBody p hi lo then .txframePoll else .txframe p hi lo
  else .txframeEncode a c p hi lo

/-- Outgoing frames (R70): STX, LEN and ETX are fixed, everything else is an operand. -/
def decodeTx16 : List Byte → Decoded
  | b0 :: b1 :: a :: c :: bs =>
    match takeBytes 9 bs with
    | some (p, hi :: lo :: e :: rest) =>
      if b0 = Config.stxOut ∧ b1 = Config.lenMark ∧ e = Config.etxOut then .ok (tx16Row a c p hi lo) rest
      else .bad .notTx16
    | _ => .bad .truncated
  | _ => .bad .truncated

/-- Incoming frames (R74): offset 0 is 0x44. Offset 10 equal to 0x04 is the row RXFRAME.TRIGB (R142). -/
def decodeRx16 (bs : List Byte) : Decoded :=
  match takeBytes 16 bs with
  | some (f, rest) =>
    if startsWithMarker f then
      if hasTrigbByte f then .ok (.rxframeTrigb f) rest else .ok (.rxframe f) rest
    else .bad .notRx16
  | none => .bad .truncated

/-- The decoder: the instruction at the head of `bs`, read in the format `fmt`. -/
def decode (fmt : Fmt) (bs : List Byte) : Decoded :=
  match fmt with
  | .evt => decodeEvt bs
  | .fn => decodeFn bs
  | .tx16 => decodeTx16 bs
  | .rx16 => decodeRx16 bs
  | .rx16Ref => .ok .rxframeTriga bs

/-- The bytes of an outgoing frame from its fields, in offset order (R70). -/
def tx16Bytes (a c : Byte) (p : Payload) (hi lo : Byte) : Frame :=
  ⟨[Config.stxOut, Config.lenMark, a, c] ++ p.1 ++ [hi, lo, Config.etxOut], by simp [p.2]⟩

/-- A length byte and the sequence (R89). -/
def counted (l : List Byte) : List Byte := BitVec.ofNat 8 l.length :: l

/-- The encoder: the bytes of an instruction's word, in the format `i.fmt`. -/
def encode : Instr → List Byte
  | .connect => [0x01]
  | .disconnect => [0x02]
  | .start => [0x03]
  | .stop => [0x04]
  | .sendcmd p => 0x05 :: p.1
  | .sendraw b => 0x06 :: b.1
  | .rx chunk => 0x07 :: counted chunk
  | .rxfail => [0x08]
  | .tb => [0x09]
  | .tick => [0x0A]
  | .fire => [0x0B]
  | .crc16 bytes => 0x00 :: counted bytes
  | .encode a c payload => 0x01 :: a :: c :: payload
  | .decode => [0x02]
  | .eval f => 0x03 :: f.1
  | .send p => 0x04 :: p.1
  | .txframe p hi lo => (tx16Bytes Config.addr Config.cmd p hi lo).1
  | .txframeEncode a c p hi lo => (tx16Bytes a c p hi lo).1
  | .txframePoll => (tx16Bytes Config.addr Config.cmd Config.zero9 0x52 0xD9).1
  | .rxframe f => f.1
  | .rxframeTrigb f => f.1
  | .rxframeTriga => []

/-- The `n` bytes of the number `w`, the most significant first: a frame row's 128-bit word has frame offset 0 in its
most significant byte (R79). -/
def bytesBE : Nat → Nat → List Byte
  | 0, _ => []
  | n + 1, w => BitVec.ofNat 8 (w >>> (8 * n)) :: bytesBE n w

/-- A word of a whole byte whose number only a function row has: 0, the row CRC16. No event row has it (R79; log 10). -/
def isFunctionByte (nbits w : Nat) : Bool := nbits == 8 && w == 0

/-- The format of an opcode-table word of `nbits` bits (R79; log 10). At most 3 bits are a function. 4 to 8 bits are an
event, the reserved ops among them, which the decoder of events refuses (R84); only `isFunctionByte` is a function. A
wider word is a frame, outgoing when it starts with 0x22. -/
def tableFmt (nbits w : Nat) : Fmt :=
  if nbits ≤ 3 then .fn
  else if nbits ≤ 8 then (if isFunctionByte nbits w then .fn else .evt)
  else if BitVec.ofNat 8 (w >>> (nbits - 8)) = Config.stxOut then .tx16 else .rx16

/-- The bytes of an opcode-table word as the event port carries them; operand bytes the table gives no bits are 0. -/
def tableBytes (nbits w : Nat) : List Byte :=
  bytesBE ((nbits + 7) / 8) w ++ List.replicate 16 0

/-- What the decoder reads from an opcode-table word. -/
def decodeTable (nbits w : Nat) : Decoded := decode (tableFmt nbits w) (tableBytes nbits w)

/-- The instruction the decoder reads from an opcode-table word, `none` where it refuses. -/
def decodeTableWord (nbits w : Nat) : Option Instr :=
  match decodeTable nbits w with
  | .ok i _ => some i
  | .bad _ => none

/-- The bytes of an opcode-table word that its instruction takes (all of them where the decoder refuses). -/
def tableFetch (nbits w : Nat) : List Byte :=
  match decodeTable nbits w with
  | .ok _ rest => (tableBytes nbits w).take ((tableBytes nbits w).length - rest.length)
  | .bad _ => tableBytes nbits w

end Sys2Proof
end

