-- ==== Sys2Proof/Machine/Operands.lean ====
section
/-! DEFINITION. Operand forms: frames built and taken apart (spec/30_encoding.md R70 to R78), the trigger predicates
(R77, R142, R143) and each channel's payloads (spec/42_automation.md R140). -/

namespace Sys2Proof.Machine

/-- The twelve bytes the CRC of an outgoing frame covers, offsets 1 to 12 (R71). -/
def crcCovered (addr cmd : Byte) (p : Payload) : List Byte := [Config.lenMark, addr, cmd] ++ p.1

/-- `ENCODE` with a nine-byte payload (R120): the CRC is placed high byte first (R51). -/
def encodeFrame (addr cmd : Byte) (p : Payload) : Frame :=
  let crc := crc16 (crcCovered addr cmd p)
  tx16Bytes addr cmd p (hiByte crc) (loByte crc)

/-- The frame `SEND` builds for a payload: ADDR 0x03, CMD 0x85 (R72, R131). -/
def commandFrame (p : Payload) : Frame := encodeFrame Config.addr Config.cmd p

/-- `STATUS(f)`: the nine bytes at offsets 4 to 12 (R75). -/
def status (f : Frame) : Payload :=
  ⟨(f.1.drop Config.statusOff).take Config.payloadLen, by
    simp [f.2, Config.statusOff, Config.payloadLen]⟩

/-- `trigA(f)`: all 16 bytes equal `REF_A` (R143). -/
def trigA (cfg : Config.Params) (f : Frame) : Bool := f == cfg.refA

/-- `trigB(f)`: the byte at offset 10 equals 0x04, as a whole byte (R142). -/
def trigB (f : Frame) : Bool := f.1[Config.trigbOff]? == some Config.trigbVal

/-- `VAC_x`: a channel's vacuum-on payload, also its hold payload (R8, R171). -/
def vac (cfg : Config.Params) : Chan → Payload
  | .a => cfg.vacA
  | .b => cfg.vacB

/-- `BRK_x`: a channel's break payload (R8, R147). -/
def brk (cfg : Config.Params) : Chan → Payload
  | .a => cfg.brkA
  | .b => cfg.brkB

/-- The numeric code of a report (R210). -/
def errNumber : ErrCode → Nat
  | .payLen => 1
  | .ioRd => 2
  | .ioWr => 3

/-- The 2-bit encoding of a channel state (R25). -/
def chCode : ChState → BitVec 2
  | .idle => 0
  | .vacuumsOn => 1
  | .readyForBreak => 2
  | .breaking => 3

end Sys2Proof.Machine
end

