-- ==== Sys2Proof/Machine/Ops.lean ====
section
/-! DEFINITION. The named operations over the registers and the trace: emitting, the guarded send, the decoder's pass,
the channel transitions, the deferred actions, the tick and the strobe. Meanings are short calls of these. -/

namespace Sys2Proof.Machine

/-! Registers -/

/-- `S.ch[x]`. -/
def State.ch (s : State) : Chan → ChState
  | .a => s.chA
  | .b => s.chB

/-- `S.ch[x] <- v`. -/
def State.setCh (s : State) (x : Chan) (v : ChState) : State :=
  match x with
  | .a => { s with chA := v }
  | .b => { s with chB := v }

/-- Arm a deferred action for a channel, at the tail of `pending` (R150). -/
def State.arm (s : State) (x : Chan) : State :=
  { s with pending := s.pending ++ [⟨x, Config.breakDiv⟩] }

/-! Outputs -/

/-- The trace items of one transport write: the TX item, and REPORT(3) after it when the environment marks the write as
failed (R213, log 13). -/
def wireItems (marks : List Bool) (f : Frame) : List Output :=
  .tx f :: (if marks.headD false then [.report .ioWr] else [])

/-- `emit TX(f)`: one whole frame in one write (R53, R62). -/
def State.emitTx (s : State) (f : Frame) : State :=
  { s with trace := s.trace ++ wireItems s.writeMarks f, writeMarks := s.writeMarks.tail }

/-- `emit SINK(f, STATUS(f))` (R129). -/
def State.emitSink (s : State) (f : Frame) : State :=
  { s with trace := s.trace ++ [.sink f (status f)] }

/-- `emit REPORT(code)`: the one thing an abnormal condition does (R210, R212). -/
def State.report (s : State) (code : ErrCode) : State :=
  { s with trace := s.trace ++ [.report code] }

/-- Deliver the result of a function row run as an instruction (log 5). -/
def State.deliver (s : State) (r : FnResult) : State := { s with result := r }

/-- Write 16 bytes as given, if the transport is open (R196). -/
def writeRaw (f : Frame) (s : State) : State := if s.isOpen then s.emitTx f else s

/-- `SEND` (R131): the guarded write of a command frame. -/
def sendOp (p : Payload) (s : State) : State := if s.isOpen then s.emitTx (commandFrame p) else s

/-! The frame decoder -/

/-- The decoder's loop (R123), at most `turns` turns: discard what precedes the first 0x44 (the whole buffer when there
is none), stop on fewer than 16 bytes, else cut 16 bytes and repeat. -/
def decodeLoop : Nat → List Byte → List Frame × List Byte
  | 0, buf => ([], buf)
  | turns + 1, buf =>
    let anchored := buf.dropWhile (· != Config.stxIn)
    match takeBytes 16 anchored with
    | none => ([], anchored)
    | some (f, rest) =>
      let later := decodeLoop turns rest
      (f :: later.1, later.2)

/-- `DECODE` as a function of the buffer: the frames in stream order and the buffer left (R123). A pass over `n` bytes
makes at most `n / 16 + 1` turns (R124). -/
def decodeBuf (buf : List Byte) : List Frame × List Byte := decodeLoop (buf.length / 16 + 1) buf

/-! The automation controller -/

/-- `STEP(x, t)` (R145 to R149). -/
def stepChannel (x : Chan) (t : Bool) (s : State) : State :=
  match s.ch x, t with
  | .idle, true => sendOp (vac s.cfg x) (s.setCh x .vacuumsOn)
  | .idle, false => s
  | .vacuumsOn, true => s
  | .vacuumsOn, false => s.setCh x .readyForBreak
  | .readyForBreak, true => (sendOp (brk s.cfg x) (s.setCh x .breaking)).arm x
  | .readyForBreak, false => s
  | .breaking, true => s
  | .breaking, false => s

/-- A channel's `STEP`, run only while the other channel is `Idle` (R144). -/
def guardedStep (x other : Chan) (t : Bool) (s : State) : State :=
  if s.ch other = .idle then stepChannel x t s else s

/-- `EVAL(f)` (R144): channel A first; channel B's guard sees A's new state (R156). -/
def evalOp (f : Frame) (s : State) : State :=
  guardedStep .b .a (trigB f) (guardedStep .a .b (trigA s.cfg f) s)

/-- What `RX` does with one decoded frame: the sink delivery, then `EVAL` if frames are evaluated (R129). -/
def consumeFrame (s : State) (f : Frame) : State :=
  if s.evalEnabled then evalOp f (s.emitSink f) else s.emitSink f

/-- `RX(chunk)` (R129): append, decode, consume the frames in stream order; ignored with no session. -/
def receive (chunk : List Byte) (s : State) : State :=
  if s.isOpen then
    let pass := decodeBuf (s.rxbuf ++ chunk)
    pass.1.foldl consumeFrame { s with rxbuf := pass.2 }
  else s

/-- `FIRE` (R151): perform the oldest deferred action, if there is one. -/
def fireOp (s : State) : State :=
  match s.pending with
  | [] => s
  | e :: rest => (sendOp Config.zero9 { s with pending := rest }).setCh e.ch .idle

/-! The scheduler and the timebase -/

/-- The payload a tick sends: A's hold, else B's hold, else the poll (R171). -/
def tickPayload (s : State) : Payload :=
  if isHeld s.chA then vac s.cfg .a
  else if isHeld s.chB then vac s.cfg .b
  else Config.zero9

/-- `TICK` (R170, R171). -/
def tickOp (s : State) : State := if s.running then sendOp (tickPayload s) s else s

/-- One strobe of the deferred countdown: every entry counts down, never below 0 (R176, R106; log 14). -/
def countDown (s : State) : State :=
  { s with pending := s.pending.map fun e => { e with remaining := e.remaining - 1 } }

/-- Fire the head entries that are due, at most `n` of them (R174 part 1). -/
def fireDue : Nat → State → State
  | 0, s => s
  | n + 1, s =>
    match s.pending with
    | [] => s
    | e :: _ => if e.remaining = 0 then fireDue n (fireOp s) else s

/-- The tick counter's strobe (R174 part 2, R175). -/
def schedulerStrobe (s : State) : State :=
  if s.running then
    if s.tickCnt + 1 = Config.tickDiv then tickOp { s with tickCnt := 0 }
    else { s with tickCnt := s.tickCnt + 1 }
  else s

/-- `TB` (R174): the due firings in arming order, then the scheduler (R177). -/
def strobe (s : State) : State := schedulerStrobe (fireDue s.pending.length (countDown s))

/-! Reset -/

/-- Reset in the middle of a run (spec/70_reset_and_hazards.md R240): the reset state; the parameters and what the
environment holds (the script, its format, the write marks) are not the block's to reset (log 22). -/
def hardReset (s : State) : State :=
  { State.reset with cfg := s.cfg, script := s.script, inFmt := s.inFmt, writeMarks := s.writeMarks }

end Sys2Proof.Machine
end

