-- ==== Sys2Proof/Machine/Automation.lean ====
section
/-! DEFINITION. The automation controller: EVAL and FIRE (spec/42_automation.md). -/

namespace Sys2Proof.Machine

/-- Row EVAL (R144). The gate on `running` is RX's, not EVAL's (R129; log 21). -/
def execEval (frame : Frame) (s : State) : Host.Outcome State Fault Refusal :=
  .next (evalOp frame s)

/-- Event FIRE (R151). -/
def execFire (s : State) : Host.Outcome State Fault Refusal :=
  .next (fireOp s)

end Sys2Proof.Machine
end

