-- ==== Sys2Proof/Machine/Checksum.lean ====
section
/-! DEFINITION. The checksum's function row: CRC16 (spec/40_checksum.md). -/

namespace Sys2Proof.Machine

/-- Row CRC16 (R104, R108): pure; the 16-bit result is delivered, nothing else changes. -/
def execCrc16 (bytes : List Byte) (s : State) : Host.Outcome State Fault Refusal :=
  .next (s.deliver (.crc (crc16 bytes)))

end Sys2Proof.Machine
end

