-- ==== Sys2Proof/Machine/FrameCodec.lean ====
section
/-! DEFINITION. The frame codec: ENCODE, SEND, DECODE, RX, RXFAIL (spec/41_frame_codec.md). -/

namespace Sys2Proof.Machine

/-- Row ENCODE (R120): the 16-byte frame is delivered. A payload whose length is not 9 is a contract violation: no
frame and no next state (R121). -/
def execEncode (addr cmd : Byte) (payload : List Byte) (s : State) : Host.Outcome State Fault Refusal :=
  if h : payload.length = 9 then .next (s.deliver (.frame (encodeFrame addr cmd ⟨payload, h⟩)))
  else .refused (.contractViolation payload.length)

/-- Row SEND (R131). -/
def execSend (payload : Payload) (s : State) : Host.Outcome State Fault Refusal :=
  .next (sendOp payload s)

/-- Row DECODE (R123): the frames are delivered, `rxbuf` keeps what the pass left. -/
def execDecode (s : State) : Host.Outcome State Fault Refusal :=
  let pass := decodeBuf s.rxbuf
  .next (State.deliver { s with rxbuf := pass.2 } (.frames pass.1))

/-- Event RX (R129). -/
def execRx (chunk : List Byte) (s : State) : Host.Outcome State Fault Refusal :=
  .next (receive chunk s)

/-- Event RXFAIL (R130): reported whatever `open` is (R218). -/
def execRxfail (s : State) : Host.Outcome State Fault Refusal :=
  .next (s.report .ioRd)

end Sys2Proof.Machine
end

