-- ==== Sys2Proof/Machine/FrameRows.lean ====
section
/-! DEFINITION. The six frame rows of the opcode table, run as instructions: a whole outgoing frame is written (log 6),
a whole incoming frame arrives in one chunk (spec/30_encoding.md R88 `RXF`; log 7). -/

namespace Sys2Proof.Machine

/-- Row TXFRAME (R70, R72): the frame is written as it stands, under the open guard (R85, R196). -/
def execTxframe (payload : Payload) (crcHi crcLo : Byte) (s : State) : Host.Outcome State Fault Refusal :=
  .next (writeRaw (tx16Bytes Config.addr Config.cmd payload crcHi crcLo) s)

/-- Row TXFRAME.ENCODE (R120): the same with any ADDR and CMD. -/
def execTxframeEncode (addr cmd : Byte) (payload : Payload) (crcHi crcLo : Byte) (s : State) :
    Host.Outcome State Fault Refusal :=
  .next (writeRaw (tx16Bytes addr cmd payload crcHi crcLo) s)

/-- Row TXFRAME.POLL (R90, R88 `POLL`): the reset and poll command is sent. -/
def execTxframePoll (s : State) : Host.Outcome State Fault Refusal :=
  .next (sendOp Config.zero9 s)

/-- Row RXFRAME (R74): the frame arrives. -/
def execRxframe (frame : Frame) (s : State) : Host.Outcome State Fault Refusal :=
  .next (receive frame.1 s)

/-- Row RXFRAME.TRIGB (R142): a frame that asserts channel B's trigger arrives. -/
def execRxframeTrigb (frame : Frame) (s : State) : Host.Outcome State Fault Refusal :=
  .next (receive frame.1 s)

/-- Row RXFRAME.TRIGA (R143): the reference frame of channel A arrives. -/
def execRxframeTriga (s : State) : Host.Outcome State Fault Refusal :=
  .next (receive s.cfg.refA.1 s)

end Sys2Proof.Machine
end

