-- ==== Sys2Proof/Machine/Scheduler.lean ====
section
/-! DEFINITION. The polling scheduler and the timebase: TICK and TB (spec/43_scheduler.md). -/

namespace Sys2Proof.Machine

/-- Event TICK (R170, R171). -/
def execTick (s : State) : Host.Outcome State Fault Refusal :=
  .next (tickOp s)

/-- Event TB (R174 to R177). -/
def execTb (s : State) : Host.Outcome State Fault Refusal :=
  .next (strobe s)

end Sys2Proof.Machine
end

