-- ==== Sys2Proof/Machine/Session.lean ====
section
/-! DEFINITION. The six session verbs (spec/44_session_verbs.md R190 to R197). No verb has a precondition (R197). -/

namespace Sys2Proof.Machine

/-- Verb CONNECT (R191). -/
def execConnect (s : State) : Host.Outcome State Fault Refusal :=
  .next { s with isOpen := true, rxbuf := [] }

/-- Verb DISCONNECT (R192). -/
def execDisconnect (s : State) : Host.Outcome State Fault Refusal :=
  .next { s with isOpen := false, rxbuf := [] }

/-- Verb START (R193): also a restart; `pending` is kept (R152). -/
def execStart (s : State) : Host.Outcome State Fault Refusal :=
  .next { s with chA := .idle, chB := .idle, running := true, tickCnt := 0 }

/-- Verb STOP (R194): sends nothing; `pending` is kept (R152). -/
def execStop (s : State) : Host.Outcome State Fault Refusal :=
  .next { s with chA := .idle, chB := .idle, running := false, tickCnt := 0 }

/-- Verb SENDCMD (R195). -/
def execSendcmd (payload : Payload) (s : State) : Host.Outcome State Fault Refusal :=
  .next (sendOp payload s)

/-- Verb SENDRAW (R196): verbatim, no field is looked at (R85). -/
def execSendraw (bytes : Frame) (s : State) : Host.Outcome State Fault Refusal :=
  .next (writeRaw bytes s)

end Sys2Proof.Machine
end

