-- ==== Sys2Proof/Machine/Dispatch.lean ====
section
/-! DEFINITION. The dispatch: one arm per row of the opcode table (spec/44_session_verbs.md R198). -/

namespace Sys2Proof.Machine

def exec (i : Instr) (s : State) : Host.Outcome State Fault Refusal :=
  match i with
  -- the eleven events
  | .connect => Sys2Proof.Machine.execConnect s
  | .disconnect => Sys2Proof.Machine.execDisconnect s
  | .start => Sys2Proof.Machine.execStart s
  | .stop => Sys2Proof.Machine.execStop s
  | .sendcmd payload => Sys2Proof.Machine.execSendcmd payload s
  | .sendraw bytes => Sys2Proof.Machine.execSendraw bytes s
  | .rx chunk => Sys2Proof.Machine.execRx chunk s
  | .rxfail => Sys2Proof.Machine.execRxfail s
  | .tb => Sys2Proof.Machine.execTb s
  | .tick => Sys2Proof.Machine.execTick s
  | .fire => Sys2Proof.Machine.execFire s
  -- the five internal functions
  | .crc16 bytes => Sys2Proof.Machine.execCrc16 bytes s
  | .encode addr cmd payload => Sys2Proof.Machine.execEncode addr cmd payload s
  | .decode => Sys2Proof.Machine.execDecode s
  | .eval frame => Sys2Proof.Machine.execEval frame s
  | .send payload => Sys2Proof.Machine.execSend payload s
  -- the six frame rows
  | .txframe payload crcHi crcLo => Sys2Proof.Machine.execTxframe payload crcHi crcLo s
  | .txframeEncode addr cmd payload crcHi crcLo => Sys2Proof.Machine.execTxframeEncode addr cmd payload crcHi crcLo s
  | .txframePoll => Sys2Proof.Machine.execTxframePoll s
  | .rxframe frame => Sys2Proof.Machine.execRxframe frame s
  | .rxframeTrigb frame => Sys2Proof.Machine.execRxframeTrigb frame s
  | .rxframeTriga => Sys2Proof.Machine.execRxframeTriga s

end Sys2Proof.Machine
end

