-- ==== Sys2Proof/Machine/Step.lean ====
section
/-! DEFINITION. One step: take the first word off the event port, decode it, run it (spec/60_exceptions.md R233,
spec/44_session_verbs.md R198). -/

namespace Sys2Proof.Machine

/-- The state once the word at the head of the script is taken: the rest of the script is left, and the next word is an
event again (log 3). -/
def State.taken (s : State) (rest : List Byte) : State := { s with script := rest, inFmt := .evt }

/-- One step. With no event waiting the block waits: the same state (R36, R235; log 2). Bytes that are no instruction
are refused (R84, R89). -/
def step (s : State) : Host.Outcome State Fault Refusal :=
  match decode s.inFmt s.script with
  | .ok i rest => exec i (s.taken rest)
  | .bad why =>
    if s.script = [] ∧ s.inFmt = .evt then .next s else .refused (.illFormedScript why)

/-- `s` with one word of the opcode table presented on the event port (log 1, log 3, log 10). -/
def State.withFetchWord (s : State) (nbits w : Nat) : State :=
  { s with script := tableFetch nbits w, inFmt := tableFmt nbits w }

/-- The fold of `exec` over a list of instructions, stopping at a fault or a refusal (R198: "A run is the fold of
`step` over a list of events"). -/
def execAll : List Instr → State → Host.Outcome State Fault Refusal
  | [], s => .next s
  | i :: is, s =>
    match exec i s with
    | .next t => execAll is t
    | .fault r => .fault r
    | .refused r => .refused r

end Sys2Proof.Machine
end

