-- ==== Sys2Proof/Machine/Script.lean ====
section
/-! DEFINITION. Event scripts: the pseudo-events (spec/30_encoding.md R88), the byte form of a whole script (R89) and the
text form (R87). -/

namespace Sys2Proof.Machine

/-- A line of a script: an event, or a pseudo-event of R88. -/
inductive ScriptItem where
  | event (i : Instr)
  /-- `WAIT n`. -/
  | wait (n : Nat)
  /-- `RXF f`: exactly 16 bytes starting 0x44, in one chunk. -/
  | rxf (f : Frame)
  /-- `POLL`. -/
  | poll
  /-- `RESTART`. -/
  | restart
  deriving DecidableEq, Repr

/-- The events a line stands for (R88). -/
def ScriptItem.expand : ScriptItem → List Instr
  | .event i => [i]
  | .wait n => List.replicate n .tb
  | .rxf f => [.rx f.1]
  | .poll => [.sendcmd Config.zero9]
  | .restart => [.stop, .start]

/-- The events of a script (R88). -/
def expandScript (items : List ScriptItem) : List Instr := items.flatMap ScriptItem.expand

/-- The byte form of a list of events (R89). -/
def scriptBytes (events : List Instr) : List Byte := events.flatMap encode

/-- Read a script's byte form, at most `n` events. -/
def readScript : Nat → List Byte → Option (List Instr)
  | _, [] => some []
  | 0, _ :: _ => none
  | n + 1, b :: bs =>
    match decodeEvt (b :: bs) with
    | .ok i rest => (readScript n rest).map (i :: ·)
    | .bad _ => none

/-- The events of a whole script, or `none` when it is ill-formed and so refused (R84, R89). -/
def loadScript (bytes : List Byte) : Option (List Instr) := readScript bytes.length bytes

/-- The timed model's events: the environment presents `TB` and never `TICK` or `FIRE` (R198). -/
def isTimed : Instr → Bool
  | .tick => false
  | .fire => false
  | i => i.fmt == .evt

/-- The untimed model's events: `TICK` and `FIRE`, never `TB` (R178, R198). -/
def isUntimed : Instr → Bool
  | .tb => false
  | i => i.fmt == .evt

/-! The text form (R87): one event a line, operands as hexadecimal bytes separated by spaces, a comment after `;`.
What R87 leaves open of it is log 24. -/

/-- Cut a list of characters at every character that satisfies `p`. -/
def cutAt (p : Char → Bool) : List Char → List (List Char)
  | [] => [[]]
  | c :: cs =>
    if p c then [] :: cutAt p cs
    else match cutAt p cs with
      | [] => [[c]]
      | w :: ws => (c :: w) :: ws

/-- The words of a line, its comment dropped. -/
def lineWords (line : List Char) : List (List Char) :=
  (cutAt (· == ' ') (line.takeWhile (· != ';'))).filter (!·.isEmpty)

/-- The digits of R87's numbers, in the order of their values. -/
def digitChars : List Char := "0123456789ABCDEF".toList

/-- The number that digits of a base up to sixteen write, the first the most significant (log 24: either case). -/
def readDigits (base : Nat) (word : List Char) : Option Nat :=
  (word.mapM fun c => (digitChars.take base).idxOf? c.toUpper).map fun values =>
    values.foldl (fun n value => base * n + value) 0

/-- An operand byte (R87): two hexadecimal digits. -/
def hexByte (word : List Char) : Option Byte :=
  if word.length = 2 then (readDigits 16 word).map (BitVec.ofNat 8) else none

/-- The count of a `WAIT` (R88; log 24: decimal). -/
def decimal (word : List Char) : Option Nat := if word.isEmpty then none else readDigits 10 word

/-- A sequence of exactly `n` bytes, if `l` has that length. -/
def exactly (n : Nat) (l : List Byte) : Option (Bytes n) := if h : l.length = n then some ⟨l, h⟩ else none

/-- The events and pseudo-events without operands, by their spelling (R79, R88). -/
def bareItem (w : List Char) : Option ScriptItem :=
  if w = "CONNECT".toList then some (.event .connect)
  else if w = "DISCONNECT".toList then some (.event .disconnect)
  else if w = "START".toList then some (.event .start)
  else if w = "STOP".toList then some (.event .stop)
  else if w = "RXFAIL".toList then some (.event .rxfail)
  else if w = "TB".toList then some (.event .tb)
  else if w = "TICK".toList then some (.event .tick)
  else if w = "FIRE".toList then some (.event .fire)
  else if w = "POLL".toList then some .poll
  else if w = "RESTART".toList then some .restart
  else none

/-- The events and pseudo-events whose operand is bytes (R80, R88). -/
def byteItem (w : List Char) (ops : List Byte) : Option ScriptItem :=
  if w = "SENDCMD".toList then (exactly 9 ops).map fun p => .event (.sendcmd p)
  else if w = "SENDRAW".toList then (exactly 16 ops).map fun f => .event (.sendraw f)
  else if w = "RX".toList then some (.event (.rx ops))
  else if w = "RXF".toList then (exactly 16 ops).bind fun f => if startsWithMarker f then some (.rxf f) else none
  else none

/-- One line of a script: no item on an empty line, `none` on a line that is not of the form of R87. -/
def parseLine (line : List Char) : Option (List ScriptItem) :=
  match lineWords line with
  | [] => some []
  | w :: ops =>
    if w = "WAIT".toList then
      match ops with
      | [n] => (decimal n).map fun k => [.wait k]
      | _ => none
    else if ops = [] ∧ w ≠ "RX".toList then (bareItem w).map fun i => [i]
    else ((ops.mapM hexByte).bind (byteItem w)).map fun i => [i]

/-- The items of a script's text (R87), or `none` when a line is not of its form. -/
def parseScript (text : String) : Option (List ScriptItem) :=
  ((cutAt (· == '\n') text.toList).mapM parseLine).map List.flatten

end Sys2Proof.Machine
end

