-- ==== Sys2Proof/Safety.lean ====
section
/-! DEFINITION. What holds between events in a good state (spec/10_state.md R26, R27, R38), in the terms the statements
use. -/

namespace Sys2Proof.Machine

/-- At most one channel is not `Idle` (R26). -/
def MutuallyExclusive (s : State) : Prop := s.chA = .idle ∨ s.chB = .idle

/-- The receive buffer's form (R27): empty, or fewer than 16 bytes starting with 0x44. -/
def RxbufOk (buf : List Byte) : Prop := buf = [] ∨ (buf.length < 16 ∧ buf.head? = some Config.stxIn)

/-- The tick counter's bound, and that it is 0 while automation is stopped (R38 b). -/
def TickCntOk (s : State) : Prop := s.tickCnt ≤ 99 ∧ (s.running = false → s.tickCnt = 0)

/-- Every entry counts 1 to 1000 strobes and the list is sorted by them (R38 c). -/
def PendingOk (p : List Pending) : Prop :=
  (∀ e ∈ p, 1 ≤ e.remaining ∧ e.remaining ≤ 1000) ∧ p.Pairwise (fun e f => e.remaining ≤ f.remaining)

/-- A channel in `Breaking` has an entry outstanding (R38 e). -/
def BreakingArmed (s : State) : Prop :=
  ∀ x : Chan, s.ch x = .breaking → ∃ e ∈ s.pending, e.ch = x

/-- What holds between events in every state reachable from reset (R26, R27, R38). -/
structure StateInv (s : State) : Prop where
  exclusive : MutuallyExclusive s
  rxbuf : RxbufOk s.rxbuf
  tickCnt : TickCntOk s
  pending : PendingOk s.pending
  armed : BreakingArmed s

/-- The writes among the items of a trace (R199: every TX is one write to the transport). -/
def txs : List Output → List Frame
  | [] => []
  | .tx f :: o => f :: txs o
  | .sink _ _ :: o => txs o
  | .report _ :: o => txs o

/-- The frames delivered to the sink among the items of a trace (R199). -/
def sinks : List Output → List Frame
  | [] => []
  | .tx _ :: o => sinks o
  | .sink f _ :: o => f :: sinks o
  | .report _ :: o => sinks o

/-- The state after one call of `SEND(p)`, in the words of R131: with `open = 1` one transport write of
`ENCODE(0x03, 0x85, p)`, otherwise nothing at all. -/
def afterSend (p : Payload) (s : State) : State :=
  { s with
    trace := s.trace ++ (if s.isOpen then wireItems s.writeMarks (encodeFrame 0x03 0x85 p) else [])
    writeMarks := if s.isOpen then s.writeMarks.tail else s.writeMarks }

/-- A trace after a write of `f` attempted under the open guard: with the transport open the TX item, and behind it nothing
but reports that this write failed, of which the rule of the write says nothing (R131, R196, R213); with it closed no item. -/
def wroteGuarded (isOpen : Bool) (f : Frame) (before after : List Output) : Prop :=
  ∃ reports : List Output, (∀ r ∈ reports, r = .report .ioWr) ∧
    after = before ++ (if isOpen then .tx f :: reports else [])

/-- `t` is `s` after one `SEND(p)` (R131), whatever becomes of the write: one attempted write of `ENCODE(0x03, 0x85, p)`,
and no other state of the block written. -/
def Sent (p : Payload) (s t : State) : Prop :=
  wroteGuarded s.isOpen (encodeFrame 0x03 0x85 p) s.trace t.trace ∧
    t = { s with trace := t.trace, writeMarks := t.writeMarks }

/-- What the untimed model keeps of a state: everything but the tick counter and the strobes left (R178). -/
def untimedView (s : State) : State :=
  { s with tickCnt := 0, pending := s.pending.map fun e => { e with remaining := 0 } }

end Sys2Proof.Machine
end

