-- ==== Sys2Proof/Certificates/Slice0/Obligations.lean ====
section
/-! DEFINITION. The statements for the provers. `R<n>` is a rule of spec/, `log <n>` a row of notes/assumptions. Where
`afterSend` or `wireItems` stands, the environment's marks of failed writes stand in it: the model's choice, log 13. -/

open Sys2Proof Sys2Proof.Machine

/-! Session verbs -/

/-- R191 to R194: each verb writes exactly the registers of its rule and emits nothing. -/
def Obligations.SessionVerbsWriteTheirRegisters : Prop :=
  ∀ s : State,
    exec .connect s = .next { s with isOpen := true, rxbuf := [] } ∧
    exec .disconnect s = .next { s with isOpen := false, rxbuf := [] } ∧
    exec .start s = .next { s with chA := .idle, chB := .idle, running := true, tickCnt := 0 } ∧
    exec .stop s = .next { s with chA := .idle, chB := .idle, running := false, tickCnt := 0 }

/-- R131, R195: SEND and SENDCMD attempt one write of ENCODE(0x03, 0x85, p) with the transport open and do nothing at all
with it closed; no other part of the state changes. -/
def Obligations.SendWritesCommandFrameWhenOpen : Prop :=
  ∀ (p : Payload) (s : State),
    (∃ t, exec (.send p) s = .next t ∧ Sent p s t) ∧ (∃ t, exec (.sendcmd p) s = .next t ∧ Sent p s t) ∧
    (s.isOpen = false → exec (.send p) s = .next s ∧ exec (.sendcmd p) s = .next s)

/-- R196: SENDRAW writes its 16 bytes as given, under the open guard; no other part of the state changes. -/
def Obligations.SendrawWritesVerbatim : Prop :=
  ∀ (f : Frame) (s : State),
    (∃ t, exec (.sendraw f) s = .next t ∧ wroteGuarded s.isOpen f s.trace t.trace ∧
      t = { s with trace := t.trace, writeMarks := t.writeMarks }) ∧
    (s.isOpen = false → exec (.sendraw f) s = .next s)

/-- The model's choice for R213, log 13: a write the environment marks as failed is followed by REPORT(3) in the trace, an
unmarked one by nothing; one mark is used up by each write. -/
def Obligations.FailedWriteIsReportedAfterIt : Prop :=
  (∀ (p : Payload) (s : State),
    exec (.send p) s = .next (afterSend p s) ∧ exec (.sendcmd p) s = .next (afterSend p s)) ∧
  ∀ (f : Frame) (s : State) (marks : List Bool), s.isOpen = true →
    exec (.sendraw f) { s with writeMarks := true :: marks } =
      .next { s with trace := s.trace ++ [.tx f, .report .ioWr], writeMarks := marks } ∧
    exec (.sendraw f) { s with writeMarks := false :: marks } =
      .next { s with trace := s.trace ++ [.tx f], writeMarks := marks } ∧
    exec (.sendraw f) { s with writeMarks := [] } =
      .next { s with trace := s.trace ++ [.tx f], writeMarks := [] }

/-! Checksum -/

/-- R101, R102: every entry of the table is what the derivation from the polynomial gives. -/
def Obligations.CrcTableIsDerivedFromPolynomial : Prop := ∀ i : Byte, tableAt i = tableEntry i

/-- R104, R108: the row CRC16 delivers the checksum of its bytes and changes nothing else. That it is delivered in
`result` is the model's choice, log 5. -/
def Obligations.Crc16RowDeliversItsValue : Prop :=
  ∀ (l : List Byte) (s : State), exec (.crc16 l) s = .next { s with result := .crc (crc16 l) }

/-- R103, R104: CRC16 folds the byte step over the bytes in order, from 0. -/
def Obligations.CrcIsTheTableFold : Prop :=
  crc16 [] = 0 ∧
  ∀ (l : List Byte) (b : Byte),
    crc16 (l ++ [b]) = (crc16 l <<< 8) ^^^ tableAt ((crc16 l >>> 8).setWidth 8 ^^^ b)

/-- R107 laws 1 to 4. -/
def Obligations.CrcContinuationAndLeadingZeros : Prop :=
  crc16 [] = 0x0000 ∧
  (∀ i : Byte, crc16 [i] = tableAt i) ∧
  (∀ l m : List Byte, crc16 (l ++ m) = m.foldl crcStep (crc16 l)) ∧
  (∀ l : List Byte, crc16 (0x00 :: l) = crc16 l)

/-- R107 law 5: CRC16 is linear over sequences of equal length. -/
def Obligations.CrcIsLinear : Prop :=
  ∀ l m : List Byte, l.length = m.length → crc16 (List.zipWith (· ^^^ ·) l m) = crc16 l ^^^ crc16 m

/-- R107 law 6: a message followed by its CRC, high byte first, has CRC 0. -/
def Obligations.CrcZeroResidue : Prop :=
  ∀ l : List Byte, crc16 (l ++ [hiByte (crc16 l), loByte (crc16 l)]) = 0x0000

/-- R107 law 8: on two-byte inputs CRC16 is a bijection onto the 16-bit values. -/
def Obligations.CrcBijectiveOnTwoBytes : Prop :=
  (∀ a b c d : Byte, crc16 [a, b] = crc16 [c, d] → a = c ∧ b = d) ∧
  ∀ v : Word, ∃ a b : Byte, crc16 [a, b] = v

/-- R105: the bit-serial form, fed each byte most significant bit first, computes CRC16. -/
def Obligations.BitSerialCrcEqualsTableCrc : Prop := ∀ l : List Byte, crc16Serial l = crc16 l

/-! Frame codec: encoding -/

/-- R120, R71: ENCODE builds these sixteen bytes, its CRC over offsets 1 to 12, high byte first. -/
def Obligations.EncodeBuildsTheFrame : Prop :=
  ∀ (a c : Byte) (p : Payload), ∃ hi lo : Byte,
    (encodeFrame a c p).1 = [0x22, 0x10, a, c] ++ p.1 ++ [hi, lo, 0x33] ∧ hi ++ lo = crc16 ([0x10, a, c] ++ p.1)

/-- R120: the row ENCODE with nine payload bytes delivers its frame and changes nothing else. That it is delivered in
`result` is the model's choice, log 5. -/
def Obligations.EncodeRowDeliversItsFrame : Prop :=
  ∀ (a c : Byte) (p : Payload) (s : State),
    exec (.encode a c p.1) s = .next { s with result := .frame (encodeFrame a c p) }

/-- R121: a payload whose length is not 9 has no result and no next state. -/
def Obligations.EncodeRefusesOtherLengths : Prop :=
  ∀ (a c : Byte) (p : List Byte) (s : State), p.length ≠ 9 →
    exec (.encode a c p) s = .refused (.contractViolation p.length)

/-- R122: the properties of every ENCODE result, the zero residue and injectivity among them. -/
def Obligations.EncodeResultProperties : Prop :=
  (∀ (a c : Byte) (p : Payload),
    (encodeFrame a c p).1.length = 16 ∧
    (encodeFrame a c p).1[0]? = some 0x22 ∧ (encodeFrame a c p).1[1]? = some 0x10 ∧
    (encodeFrame a c p).1[15]? = some 0x33 ∧
    ((encodeFrame a c p).1.drop 4).take 9 = p.1 ∧
    (∃ hi lo : Byte, ((encodeFrame a c p).1.drop 13).take 2 = [hi, lo] ∧
      hi ++ lo = crc16 ([0x10, a, c] ++ p.1)) ∧
    crc16 (((encodeFrame a c p).1.drop 1).take 14) = 0x0000) ∧
  ∀ (a c a' c' : Byte) (p p' : Payload),
    encodeFrame a c p = encodeFrame a' c' p' → a = a' ∧ c = c' ∧ p = p'

/-- R90: the reset frame and the poll frame are these 16 bytes. The row TXFRAME.POLL sends them (log 6). -/
def Obligations.PollRowSendsFixedFrame : Prop :=
  (encodeFrame 0x03 0x85 Config.zero9).1 =
    [0x22, 0x10, 0x03, 0x85, 0, 0, 0, 0, 0, 0, 0, 0, 0, 0x52, 0xD9, 0x33] ∧
  ∀ s : State, exec .txframePoll s = .next (afterSend Config.zero9 s)

/-- The model's choice, log 6: the rows TXFRAME and TXFRAME.ENCODE write their frame as it stands, under the open guard of
R196; with the CRC of R71 the row TXFRAME does what SEND does. -/
def Obligations.TxframeRowsWriteTheirFrame : Prop :=
  ∀ (a c : Byte) (p : Payload) (hi lo : Byte) (s : State),
    (s.isOpen = true →
      exec (.txframeEncode a c p hi lo) s = .next { s with
        trace := s.trace ++ wireItems s.writeMarks
          ⟨[0x22, 0x10, a, c] ++ p.1 ++ [hi, lo, 0x33], (tx16Bytes a c p hi lo).2⟩,
        writeMarks := s.writeMarks.tail } ∧
      exec (.txframe p hi lo) s = .next { s with
        trace := s.trace ++ wireItems s.writeMarks
          ⟨[0x22, 0x10, 0x03, 0x85] ++ p.1 ++ [hi, lo, 0x33], (tx16Bytes 0x03 0x85 p hi lo).2⟩,
        writeMarks := s.writeMarks.tail }) ∧
    (s.isOpen = false →
      exec (.txframeEncode a c p hi lo) s = .next s ∧ exec (.txframe p hi lo) s = .next s) ∧
    (hi ++ lo = crc16 ([0x10, 0x03, 0x85] ++ p.1) → exec (.txframe p hi lo) s = .next (afterSend p s))

/-! Frame codec: decoding -/

/-- R123: the three ends of a turn of DECODE. No 0x44: the whole buffer goes. A 0x44 with fewer than 16 bytes from it: what
precedes it goes, the rest stays. Otherwise the 16 bytes from the first 0x44 are one frame and the pass goes on behind
them. The row DECODE leaves the pass's buffer in `rxbuf`; nothing else of the block is written (the last clause leaves open
where the frames are delivered). -/
def Obligations.DecodePassFollowsItsSteps : Prop :=
  (∀ noise : List Byte, 0x44 ∉ noise → decodeBuf noise = ([], [])) ∧
  (∀ noise tail : List Byte, 0x44 ∉ noise → tail.length < 15 →
    decodeBuf (noise ++ 0x44 :: tail) = ([], 0x44 :: tail)) ∧
  (∀ (noise : List Byte) (f : Frame) (rest : List Byte), 0x44 ∉ noise → f.1.head? = some 0x44 →
    decodeBuf (noise ++ f.1 ++ rest) = (f :: (decodeBuf rest).1, (decodeBuf rest).2)) ∧
  ∀ s : State, ∃ r : FnResult, exec .decode s = .next { s with rxbuf := (decodeBuf s.rxbuf).2, result := r }

/-- R123: the row DECODE runs the pass on `rxbuf` in place and changes no other register. That the frames are delivered in
`result` is the model's choice, log 5. -/
def Obligations.DecodeRowWorksInPlace : Prop :=
  ∀ s : State,
    exec .decode s = .next { s with rxbuf := (decodeBuf s.rxbuf).2, result := .frames (decodeBuf s.rxbuf).1 }

/-- R125: what a pass leaves, and that a second pass over it changes nothing. -/
def Obligations.DecodeLeavesFragmentAndIsIdempotent : Prop :=
  ∀ b : List Byte,
    ((decodeBuf b).2 = [] ∨ ((decodeBuf b).2.length < 16 ∧ (decodeBuf b).2[0]? = some 0x44)) ∧
    decodeBuf (decodeBuf b).2 = ([], (decodeBuf b).2)

/-- R124, R126: a pass over n bytes yields at most n / 16 frames, each starting with 0x44, whatever their other bytes. -/
def Obligations.DecodeFramesAreFewAndAnchored : Prop :=
  ∀ b : List Byte, (decodeBuf b).1.length ≤ b.length / 16 ∧ ∀ f ∈ (decodeBuf b).1, f.1.head? = some 0x44

/-- R127: chunk invariance of the decoder. -/
def Obligations.DecodeIsChunkInvariant : Prop :=
  ∀ b c : List Byte,
    decodeBuf (b ++ c) =
      ((decodeBuf b).1 ++ (decodeBuf ((decodeBuf b).2 ++ c)).1, (decodeBuf ((decodeBuf b).2 ++ c)).2)

/-! Receive events -/

/-- R129: a chunk with no session is ignored; with one, the pass over `rxbuf ++ chunk` leaves its buffer, and each frame in
stream order is delivered to the sink and then, while automation runs, evaluated. The premise on EVAL_GATED, the optional
parameter of D7, is its default. -/
def Obligations.RxDecodesDeliversEvaluates : Prop :=
  ∀ (c : List Byte) (s : State), s.cfg.evalGated = true →
    (s.isOpen = false → exec (.rx c) s = .next s) ∧
    (s.isOpen = true → exec (.rx c) s = .next
      ((decodeBuf (s.rxbuf ++ c)).1.foldl
        (fun t f =>
          let delivered := { t with trace := t.trace ++ [.sink f (status f)] }
          if t.running then evalOp f delivered else delivered)
        { s with rxbuf := (decodeBuf (s.rxbuf ++ c)).2 }))

/-- R129, R24: while automation is stopped RX delivers every decoded frame to the sink, keeps the fragment, and changes
nothing else. -/
def Obligations.RxWhileStoppedOnlyDelivers : Prop :=
  ∀ (c : List Byte) (s : State), s.isOpen = true → s.running = false → s.cfg.evalGated = true →
    exec (.rx c) s = .next { s with
      rxbuf := (decodeBuf (s.rxbuf ++ c)).2
      trace := s.trace ++ (decodeBuf (s.rxbuf ++ c)).1.map fun f => .sink f (status f) }

/-- R126, R88: any 16 bytes starting with 0x44, arriving whole with an empty buffer, are one frame, delivered and
evaluated; the buffer is empty again. The frame rows RXFRAME, RXFRAME.TRIGB and RXFRAME.TRIGA are such an arrival, which is
the model's choice, logs 7 and 8. -/
def Obligations.WholeFrameArrivalIsDeliveredAndEvaluated : Prop :=
  ∀ (f : Frame) (s t : State),
    (s.isOpen = true → s.rxbuf = [] → f.1.head? = some 0x44 →
      t = { s with trace := s.trace ++ [.sink f (status f)] } →
      exec (.rx f.1) s = .next (if s.running = true ∨ s.cfg.evalGated = false then evalOp f t else t) ∧
      exec (.rxframe f) s = .next (if s.running = true ∨ s.cfg.evalGated = false then evalOp f t else t) ∧
      exec (.rxframeTrigb f) s = .next (if s.running = true ∨ s.cfg.evalGated = false then evalOp f t else t) ∧
      (f = s.cfg.refA →
        exec .rxframeTriga s = .next (if s.running = true ∨ s.cfg.evalGated = false then evalOp f t else t))) ∧
    (s.isOpen = false →
      exec (.rxframe f) s = .next s ∧ exec (.rxframeTrigb f) s = .next s ∧ exec .rxframeTriga s = .next s)

/-- The model's choice, logs 7 and 8: in every state a frame row of format RX16 does what RX does with its bytes. -/
def Obligations.RxframeRowsAreArrivals : Prop :=
  ∀ (f : Frame) (s : State),
    exec (.rxframe f) s = exec (.rx f.1) s ∧ exec (.rxframeTrigb f) s = exec (.rx f.1) s ∧
    exec .rxframeTriga s = exec (.rx s.cfg.refA.1) s

/-- R55: chunk boundaries carry no meaning. Two consecutive RX do what one RX of the joined chunk does; with events that are
neither CONNECT nor DISCONNECT between them, the frames delivered and the buffer left are the same. -/
def Obligations.ChunkBoundariesCarryNoMeaning : Prop :=
  (∀ (s : State) (c d : List Byte), execAll [.rx c, .rx d] s = exec (.rx (c ++ d)) s) ∧
  ∀ (s t u : State) (c d : List Byte) (between : List Instr),
    (∀ i ∈ between, i ∈ [Instr.start, .stop, .rxfail, .tb, .tick, .fire] ∨
      (∃ p, i = .sendcmd p) ∨ (∃ f, i = .sendraw f)) →
    execAll (.rx c :: between ++ [.rx d]) s = .next t → exec (.rx (c ++ d)) s = .next u →
    t.rxbuf = u.rxbuf ∧ sinks t.trace = sinks u.trace

/-- R130, R212: RXFAIL reports E_IO_RD and changes no register. -/
def Obligations.RxfailReportsAndChangesNothing : Prop :=
  ∀ s : State, exec .rxfail s = .next { s with trace := s.trace ++ [.report .ioRd] }

/-! Automation controller -/

/-- R145 to R148, R150: the transition of STEP in each state, for either channel and either value of the trigger. -/
def Obligations.StepFollowsTransitionTable : Prop :=
  ∀ (x : Chan) (s : State),
    (s.ch x = .idle → Sent (vac s.cfg x) (s.setCh x .vacuumsOn) (stepChannel x true s) ∧
      stepChannel x false s = s) ∧
    (s.ch x = .vacuumsOn → stepChannel x true s = s ∧ stepChannel x false s = s.setCh x .readyForBreak) ∧
    (s.ch x = .readyForBreak →
      Sent (brk s.cfg x) { s.setCh x .breaking with pending := s.pending ++ [⟨x, 1000⟩] } (stepChannel x true s) ∧
      stepChannel x false s = s) ∧
    (s.ch x = .breaking → stepChannel x true s = s ∧ stepChannel x false s = s)

/-- R143 to R148: EVAL as channel A sees it, while channel B is Idle; a frame equal to REF_A asserts A's trigger. A channel
A that is not Idle, or that leaves Idle in this frame, keeps channel B where it is. -/
def Obligations.EvalMovesChannelA : Prop :=
  ∀ (f : Frame) (s : State), s.chB = .idle →
    (s.chA = .idle → f = s.cfg.refA →
      exec (.eval f) s = .next (afterSend s.cfg.vacA { s with chA := .vacuumsOn })) ∧
    (s.chA = .vacuumsOn → f = s.cfg.refA → exec (.eval f) s = .next s) ∧
    (s.chA = .vacuumsOn → f ≠ s.cfg.refA → exec (.eval f) s = .next { s with chA := .readyForBreak }) ∧
    (s.chA = .readyForBreak → f = s.cfg.refA →
      exec (.eval f) s = .next (afterSend s.cfg.brkA
        { s with chA := .breaking, pending := s.pending ++ [⟨.a, 1000⟩] })) ∧
    (s.chA = .readyForBreak → f ≠ s.cfg.refA → exec (.eval f) s = .next s) ∧
    (s.chA = .breaking → exec (.eval f) s = .next s)

/-- R142, R144 to R148: EVAL as channel B sees it, while channel A is Idle; 0x04 at offset 10 asserts B's trigger. With both
channels Idle, B is evaluated on frames that do not start A (R156). -/
def Obligations.EvalMovesChannelB : Prop :=
  ∀ (f : Frame) (s : State), s.chA = .idle →
    (s.chB = .idle → f ≠ s.cfg.refA → f.1[10]? = some 0x04 →
      exec (.eval f) s = .next (afterSend s.cfg.vacB { s with chB := .vacuumsOn })) ∧
    (s.chB = .idle → f ≠ s.cfg.refA → f.1[10]? ≠ some 0x04 → exec (.eval f) s = .next s) ∧
    (s.chB = .vacuumsOn → f.1[10]? = some 0x04 → exec (.eval f) s = .next s) ∧
    (s.chB = .vacuumsOn → f.1[10]? ≠ some 0x04 → exec (.eval f) s = .next { s with chB := .readyForBreak }) ∧
    (s.chB = .readyForBreak → f.1[10]? = some 0x04 →
      exec (.eval f) s = .next (afterSend s.cfg.brkB
        { s with chB := .breaking, pending := s.pending ++ [⟨.b, 1000⟩] })) ∧
    (s.chB = .readyForBreak → f.1[10]? ≠ some 0x04 → exec (.eval f) s = .next s) ∧
    (s.chB = .breaking → exec (.eval f) s = .next s)

/-- R144, R157: while a channel is not Idle, no chunk moves the other one, however many frames it holds. -/
def Obligations.ActiveChannelLocksOutTheOther : Prop :=
  ∀ (c : List Byte) (s t : State), exec (.rx c) s = .next t →
    (s.chA ≠ .idle → t.chB = s.chB ∧ t.chA ≠ .idle) ∧ (s.chB ≠ .idle → t.chA = s.chA ∧ t.chB ≠ .idle)

/-- R151: FIRE performs the oldest entry, whatever its count and whatever state its channel is in: the entry goes, the reset
command is sent, the channel is Idle. With nothing pending it has no effect. -/
def Obligations.FirePerformsOldestEntry : Prop :=
  ∀ (s : State),
    (s.pending = [] → exec .fire s = .next s) ∧
    ∀ (x : Chan) (n : Nat) (rest : List Pending), s.pending = ⟨x, n⟩ :: rest →
      ∃ t, exec .fire s = .next t ∧ Sent Config.zero9 ({ s with pending := rest }.setCh x .idle) t

/-- R154: one press, release, press cycle of a channel, then its deferred action (FIRE, R178), with no other event between:
the vacuum-on with the first press, nothing while it is held, nothing on the release, the break with the second press, the
reset with the deferred action; the channel ends Idle with nothing pending, every frame has been delivered. -/
def Obligations.FullCycleEmitsThreeCommands : Prop :=
  ∀ (x y : Chan) (press release : Frame) (s : State),
    s.isOpen = true → s.running = true → s.rxbuf = [] → s.pending = [] → s.chA = .idle → s.chB = .idle →
    press.1.head? = some 0x44 → release.1.head? = some 0x44 →
    (x = .a ∧ y = .b ∧ press = s.cfg.refA ∧ release ≠ s.cfg.refA ∨
      x = .b ∧ y = .a ∧ press ≠ s.cfg.refA ∧ press.1[10]? = some 0x04 ∧ release.1[10]? ≠ some 0x04) →
    ∃ t₁ t₂ t₃ t₄ t₅ : State,
      exec (.rx press.1) s = .next t₁ ∧ t₁.ch x = .vacuumsOn ∧
        txs t₁.trace = txs s.trace ++ [encodeFrame 0x03 0x85 (vac s.cfg x)] ∧
      exec (.rx press.1) t₁ = .next t₂ ∧ t₂.ch x = .vacuumsOn ∧ txs t₂.trace = txs t₁.trace ∧
      exec (.rx release.1) t₂ = .next t₃ ∧ t₃.ch x = .readyForBreak ∧ txs t₃.trace = txs t₂.trace ∧
      exec (.rx press.1) t₃ = .next t₄ ∧ t₄.ch x = .breaking ∧ t₄.pending = [⟨x, 1000⟩] ∧
        txs t₄.trace = txs t₃.trace ++ [encodeFrame 0x03 0x85 (brk s.cfg x)] ∧
      exec .fire t₄ = .next t₅ ∧ t₅.ch x = .idle ∧ t₅.ch y = .idle ∧ t₅.pending = [] ∧ t₅.rxbuf = [] ∧
        txs t₅.trace = txs t₄.trace ++ [encodeFrame 0x03 0x85 Config.zero9] ∧
        sinks t₅.trace = sinks s.trace ++ [press, press, release, press]

/-! Scheduler and timebase -/

/-- R170 to R172: a tick makes one call of SEND while automation runs, A's hold before B's hold before the poll, and nothing
otherwise; it changes no channel. -/
def Obligations.TickSendsByPriority : Prop :=
  ∀ s : State,
    (s.running = false → exec .tick s = .next s) ∧
    (s.running = true → ∃ t, exec .tick s = .next t ∧ Sent
      (if s.chA = .vacuumsOn ∨ s.chA = .readyForBreak then s.cfg.vacA
       else if s.chB = .vacuumsOn ∨ s.chB = .readyForBreak then s.cfg.vacB
       else Config.zero9) s t)

/-- R174 to R176: a strobe in which nothing falls due only counts. -/
def Obligations.QuietStrobeOnlyCounts : Prop :=
  ∀ s : State, (∀ e ∈ s.pending, 1 < e.remaining) →
    (s.running = false → exec .tb s = .next { s with
      pending := s.pending.map fun e => { e with remaining := e.remaining - 1 } }) ∧
    (s.running = true → s.tickCnt < 99 → exec .tb s = .next { s with
      pending := s.pending.map fun e => { e with remaining := e.remaining - 1 }
      tickCnt := s.tickCnt + 1 })

/-- R174 to R177: a strobe is the countdown, then one FIRE for each entry that falls due, then the TICK when the counter
reaches 100. The premise is R38 c, which `StepKeepsInvariant` keeps. -/
def Obligations.StrobeIsFiresThenTick : Prop :=
  ∀ s : State, PendingOk s.pending →
    exec .tb s = execAll
      (List.replicate (s.pending.countP fun e => e.remaining = 1) .fire ++
        (if s.running = true ∧ s.tickCnt = 99 then [.tick] else []))
      { s with
        pending := s.pending.map fun e => { e with remaining := e.remaining - 1 }
        tickCnt := if s.running = true then (if s.tickCnt = 99 then 0 else s.tickCnt + 1) else s.tickCnt }

/-- R176: after n strobes the entries with more than n left are outstanding, each n lower; the others have left `pending`.
That an entry leaves it by firing is `StrobeIsFiresThenTick`. -/
def Obligations.DeferredCountdownIsExact : Prop :=
  ∀ (n : Nat) (s : State), PendingOk s.pending →
    ∃ t, execAll (List.replicate n .tb) s = .next t ∧
      t.pending = (s.pending.filter fun e => n < e.remaining).map fun e => { e with remaining := e.remaining - n }

/-- R38, last sentence: a channel in Breaking leaves it at the latest 1000 strobes later. -/
def Obligations.BreakingEndsWithin1000Strobes : Prop :=
  ∀ (x : Chan) (s : State), StateInv s → s.ch x = .breaking →
    ∃ n ≤ 1000, ∃ t, execAll (List.replicate n .tb) s = .next t ∧ t.ch x = .idle

/-- R175: the first tick comes with the 100th strobe after START, and no tick at START itself. -/
def Obligations.FirstTickWithHundredthStrobe : Prop :=
  ∀ s : State, s.pending = [] →
    execAll (.start :: List.replicate 99 .tb) s =
      .next { s with chA := .idle, chB := .idle, running := true, tickCnt := 99 } ∧
    execAll (.start :: List.replicate 100 .tb) s =
      .next (afterSend Config.zero9 { s with chA := .idle, chB := .idle, running := true, tickCnt := 0 })

/-- R178: every strobe of the timed model is, but for the counters, zero or more FIREs followed by zero or one TICK of the
untimed model, the TICK only while automation runs. -/
def Obligations.TimedStrobeIsUntimedRun : Prop :=
  ∀ s : State, ∃ (n : Nat) (ticks : List Instr) (t u : State),
    n ≤ s.pending.length ∧ (ticks = [] ∨ (ticks = [.tick] ∧ s.running = true)) ∧
    exec .tb s = .next t ∧ execAll (List.replicate n .fire ++ ticks) s = .next u ∧
    untimedView t = untimedView u

/-! Reset and invariants -/

/-- R36: the reset state, and that DISCONNECT and STOP with nothing pending lead to its registers. -/
def Obligations.ResetIsTheQuiescentState : Prop :=
  (State.reset.isOpen = false ∧ State.reset.running = false ∧ State.reset.chA = .idle ∧ State.reset.chB = .idle ∧
    State.reset.rxbuf = [] ∧ State.reset.tickCnt = 0 ∧ State.reset.pending = [] ∧ State.reset.trace = [] ∧
    State.reset.cfg = Config.configured) ∧
  ∀ s : State, s.pending = [] → ∃ t, execAll [.disconnect, .stop] s = .next t ∧
    t.isOpen = State.reset.isOpen ∧ t.running = State.reset.running ∧ t.chA = State.reset.chA ∧
    t.chB = State.reset.chB ∧ t.rxbuf = State.reset.rxbuf ∧ t.tickCnt = State.reset.tickCnt ∧
    t.pending = State.reset.pending

/-- R26, R27, R38: the invariant holds at reset. -/
def Obligations.ResetMeetsInvariant : Prop := StateInv State.reset

/-- R26, R27, R38 a to e: every step from a state that meets the invariant leads to one that meets it. -/
def Obligations.StepKeepsInvariant : Prop := ∀ s t : State, StateInv s → step s = .next t → StateInv t

/-- R153: mutual exclusion is kept by every instruction, with no other premise. -/
def Obligations.MutualExclusionIsPreserved : Prop :=
  ∀ (i : Instr) (s t : State), (s.chA = .idle ∨ s.chB = .idle) → exec i s = .next t →
    (t.chA = .idle ∨ t.chB = .idle)

/-! Decoding, stepping, runs -/

/-- R79, R89, R70, R74: every well-formed instruction, encoded and followed by any bytes, is decoded to itself, and the
bytes after it are left. The bytes of the function rows (log 4), the empty word of RXFRAME.TRIGA (log 8) and the row a frame
is given where rows overlap (log 9) are the model's choices. -/
def Obligations.DecodeOfEncodeIsIdentity : Prop :=
  ∀ (i : Instr) (rest : List Byte), i.wellFormed = true → decode i.fmt (encode i ++ rest) = .ok i rest

/-- No bit of a word is dropped: what the decoder reads is the encoding of what it answers. The bytes of the function rows
(log 4), the empty word of RXFRAME.TRIGA (log 8) and the row a frame is given where rows overlap (log 9) are the model's
choices. -/
def Obligations.EncodeOfDecodeIsIdentity : Prop :=
  ∀ (fmt : Fmt) (bytes rest : List Byte) (i : Instr), decode fmt bytes = .ok i rest →
    i.fmt = fmt ∧ bytes = encode i ++ rest

/-- R84, R89: an event byte with a reserved op or a non-zero high nibble, and a function byte that is no listed fn, name no
operation; nor does a reserved number of R79 presented as a 4-bit op or a 3-bit fn of the opcode table. The byte of a
function (log 4) and the reading of numbered words (log 10) are the model's choices. -/
def Obligations.ReservedCodesAreRefused : Prop :=
  (∀ (b : Byte) (rest : List Byte),
    (b.toNat = 0 ∨ 12 ≤ b.toNat → ∃ why, decode .evt (b :: rest) = .bad why ∧
      ∀ s : State, s.inFmt = .evt → s.script = b :: rest → step s = .refused (.illFormedScript why)) ∧
    (5 ≤ b.toNat → ∃ why, decode .fn (b :: rest) = .bad why ∧
      ∀ s : State, s.inFmt = .fn → s.script = b :: rest → step s = .refused (.illFormedScript why))) ∧
  (∀ op ∈ [0x0, 0xC, 0xD, 0xE, 0xF], decodeTableWord 4 op = none ∧
    ∀ s : State, ∃ why, step (s.withFetchWord 4 op) = .refused (.illFormedScript why)) ∧
  ∀ fn ∈ [5, 6, 7], decodeTableWord 3 fn = none ∧
    ∀ s : State, ∃ why, step (s.withFetchWord 3 fn) = .refused (.illFormedScript why)

/-- A step runs the instruction the decoder reads at the head of the script, in the state with its bytes taken off and the
port back at events. With no event waiting it waits; bytes that are no instruction are refused (logs 1 to 3). -/
def Obligations.StepRunsTheDecodedInstruction : Prop :=
  (∀ (s : State) (i : Instr) (rest : List Byte), decode s.inFmt s.script = .ok i rest →
    step s = exec i { s with script := rest, inFmt := .evt }) ∧
  (∀ s : State, s.inFmt = .evt → s.script = [] → step s = .next s) ∧
  ∀ (s : State) (why : DecodeError), decode s.inFmt s.script = .bad why → (s.inFmt ≠ .evt ∨ s.script ≠ []) →
    step s = .refused (.illFormedScript why)

/-- Words written out from R79, R89, R70, R74, R90 and R142 are the instructions they stand for. The last two frames match
less special rows too: that they are TXFRAME.POLL and RXFRAME.TRIGB is the model's choice, log 9. -/
def Obligations.SpecWordsDecodeToTheirInstruction : Prop :=
  decode .evt [0x01] = .ok .connect [] ∧
  decode .evt [0x0B] = .ok .fire [] ∧
  decode .evt [0x05, 1, 2, 3, 4, 5, 6, 7, 8, 9] = .ok (.sendcmd ⟨[1, 2, 3, 4, 5, 6, 7, 8, 9], rfl⟩) [] ∧
  decode .evt [0x07, 0x03, 0x44, 0xEE, 0xEE] = .ok (.rx [0x44, 0xEE, 0xEE]) [] ∧
  decode .tx16 [0x22, 0x10, 0x03, 0x85, 0, 0, 0, 0, 0, 0, 0, 0, 0, 0x52, 0xD9, 0x33] = .ok .txframePoll [] ∧
  decode .rx16 [0x44, 0, 0, 0, 0, 0, 0, 0, 0, 0, 0x04, 0, 0, 0, 0, 0] =
    .ok (.rxframeTrigb ⟨[0x44, 0, 0, 0, 0, 0, 0, 0, 0, 0, 0x04, 0, 0, 0, 0, 0], rfl⟩) []

/-- R198: running a script step by step is the fold of the instructions over the state. The script is the byte form of a
list of well-formed events (R89). -/
def Obligations.ScriptRunIsFoldOfEvents : Prop :=
  ∀ (events : List Instr) (s : State), s.inFmt = .evt →
    (∀ i ∈ events, i.fmt = .evt ∧ i.wellFormed = true) →
    loadScript (scriptBytes events) = some events ∧
    ∃ t : State, execAll events { s with script := [] } = .next t ∧
      Sys2Proof.core.run events.length { s with script := scriptBytes events } = .next t

/-! Rules over all instructions -/

/-- R23, R24, R230: only CONNECT and DISCONNECT write `open`, only START and STOP write `running`. -/
def Obligations.OnlyVerbsWriteTheFlags : Prop :=
  ∀ (i : Instr) (s t : State), exec i s = .next t →
    (i ≠ .connect → i ≠ .disconnect → t.isOpen = s.isOpen) ∧
    (i ≠ .start → i ≠ .stop → t.running = s.running)

/-- R31, R66: no instruction writes a parameter; nor (logs 1 and 3) the script and its format. -/
def Obligations.ParametersAndScriptAreNeverWritten : Prop :=
  ∀ (i : Instr) (s t : State), exec i s = .next t →
    t.cfg = s.cfg ∧ t.script = s.script ∧ t.inFmt = s.inFmt

/-- R175: only START, STOP and TB write the tick counter. R27: only CONNECT, DISCONNECT, the receive events and DECODE write
the receive buffer. R131, R151, R171: SEND, FIRE, TICK, EVAL and the rest leave both alone. -/
def Obligations.CounterAndBufferFrame : Prop :=
  ∀ (i : Instr) (s t : State), exec i s = .next t →
    (i ∉ [Instr.start, .stop, .tb] → t.tickCnt = s.tickCnt) ∧
    (i ∉ [Instr.connect, .disconnect, .decode, .rxframeTriga] → (∀ c, i ≠ .rx c) → (∀ f, i ≠ .rxframe f) →
      (∀ f, i ≠ .rxframeTrigb f) → t.rxbuf = s.rxbuf)

/-- R32, R62: what is in the trace stays, in its order; an instruction only appends. -/
def Obligations.TraceOnlyGrows : Prop :=
  ∀ (i : Instr) (s t : State), exec i s = .next t → s.trace <+: t.trace

/-- R131, R196, R230: with the transport closed nothing is written, whatever the instruction. -/
def Obligations.NothingIsWrittenWhileClosed : Prop :=
  ∀ (i : Instr) (s t : State), s.isOpen = false → exec i s = .next t → txs t.trace = txs s.trace

/-- R72: every frame written by an instruction that is not handed a whole outgoing frame is ENCODE(0x03, 0x85, p) for some
payload p. -/
def Obligations.WritesAreCommandFrames : Prop :=
  ∀ (i : Instr) (s t : State), (∀ f, i ≠ .sendraw f) → (∀ p hi lo, i ≠ .txframe p hi lo) →
    (∀ a c p hi lo, i ≠ .txframeEncode a c p hi lo) → exec i s = .next t →
    ∃ ps : List Payload, txs t.trace = txs s.trace ++ ps.map (encodeFrame 0x03 0x85)

/-- R152, R246: an entry leaves `pending` only by firing: every instruction but TB and FIRE leaves the list as it is or
appends to it, and the verbs leave it as it is. -/
def Obligations.PendingLeavesOnlyByFiring : Prop :=
  ∀ (i : Instr) (s t : State), exec i s = .next t →
    (i ≠ .tb → i ≠ .fire → s.pending <+: t.pending) ∧
    (i ∈ [Instr.start, .stop, .connect, .disconnect, .tick, .rxfail] → t.pending = s.pending)

/-- R214, R213: the outcome of a write feeds nothing back. Two states that differ only in the environment's marks are led
by every instruction to states with the same registers, the same writes and the same deliveries, or are refused alike. -/
def Obligations.WriteOutcomeFeedsNothingBack : Prop :=
  ∀ (i : Instr) (s : State) (marks : List Bool),
    (∀ t, exec i s = .next t → ∃ u, exec i { s with writeMarks := marks } = .next u ∧
      u.isOpen = t.isOpen ∧ u.running = t.running ∧ u.chA = t.chA ∧ u.chB = t.chB ∧ u.rxbuf = t.rxbuf ∧
      u.tickCnt = t.tickCnt ∧ u.pending = t.pending ∧ u.cfg = t.cfg ∧ u.result = t.result ∧
      txs u.trace = txs t.trace ∧ sinks u.trace = sinks t.trace) ∧
    ∀ r, exec i s = .refused r → exec i { s with writeMarks := marks } = .refused r
end

