-- ==== Sys2Proof/Laws/State.lean ====
section
/-! SUPPORT. One lemma per field per update of the state, so that no later proof unfolds an update. -/

namespace Sys2Proof.Machine

@[simp] theorem State.arm_isOpen (s : State) (x : Chan) : (s.arm x).isOpen = s.isOpen := rfl
@[simp] theorem State.arm_running (s : State) (x : Chan) : (s.arm x).running = s.running := rfl
@[simp] theorem State.arm_chA (s : State) (x : Chan) : (s.arm x).chA = s.chA := rfl
@[simp] theorem State.arm_chB (s : State) (x : Chan) : (s.arm x).chB = s.chB := rfl
@[simp] theorem State.arm_rxbuf (s : State) (x : Chan) : (s.arm x).rxbuf = s.rxbuf := rfl
@[simp] theorem State.arm_tickCnt (s : State) (x : Chan) : (s.arm x).tickCnt = s.tickCnt := rfl
@[simp] theorem State.arm_pending (s : State) (x : Chan) : (s.arm x).pending = s.pending ++ [⟨x, 1000⟩] := rfl
@[simp] theorem State.arm_cfg (s : State) (x : Chan) : (s.arm x).cfg = s.cfg := rfl
@[simp] theorem State.arm_trace (s : State) (x : Chan) : (s.arm x).trace = s.trace := rfl
@[simp] theorem State.arm_result (s : State) (x : Chan) : (s.arm x).result = s.result := rfl
@[simp] theorem State.arm_script (s : State) (x : Chan) : (s.arm x).script = s.script := rfl
@[simp] theorem State.arm_inFmt (s : State) (x : Chan) : (s.arm x).inFmt = s.inFmt := rfl
@[simp] theorem State.arm_writeMarks (s : State) (x : Chan) : (s.arm x).writeMarks = s.writeMarks := rfl

@[simp] theorem State.emitTx_isOpen (s : State) (f : Frame) : (s.emitTx f).isOpen = s.isOpen := rfl
@[simp] theorem State.emitTx_running (s : State) (f : Frame) : (s.emitTx f).running = s.running := rfl
@[simp] theorem State.emitTx_chA (s : State) (f : Frame) : (s.emitTx f).chA = s.chA := rfl
@[simp] theorem State.emitTx_chB (s : State) (f : Frame) : (s.emitTx f).chB = s.chB := rfl
@[simp] theorem State.emitTx_rxbuf (s : State) (f : Frame) : (s.emitTx f).rxbuf = s.rxbuf := rfl
@[simp] theorem State.emitTx_tickCnt (s : State) (f : Frame) : (s.emitTx f).tickCnt = s.tickCnt := rfl
@[simp] theorem State.emitTx_pending (s : State) (f : Frame) : (s.emitTx f).pending = s.pending := rfl
@[simp] theorem State.emitTx_cfg (s : State) (f : Frame) : (s.emitTx f).cfg = s.cfg := rfl
@[simp] theorem State.emitTx_trace (s : State) (f : Frame) : (s.emitTx f).trace = s.trace ++ wireItems s.writeMarks f := rfl
@[simp] theorem State.emitTx_result (s : State) (f : Frame) : (s.emitTx f).result = s.result := rfl
@[simp] theorem State.emitTx_script (s : State) (f : Frame) : (s.emitTx f).script = s.script := rfl
@[simp] theorem State.emitTx_inFmt (s : State) (f : Frame) : (s.emitTx f).inFmt = s.inFmt := rfl
@[simp] theorem State.emitTx_writeMarks (s : State) (f : Frame) : (s.emitTx f).writeMarks = s.writeMarks.tail := rfl

@[simp] theorem State.emitSink_isOpen (s : State) (f : Frame) : (s.emitSink f).isOpen = s.isOpen := rfl
@[simp] theorem State.emitSink_running (s : State) (f : Frame) : (s.emitSink f).running = s.running := rfl
@[simp] theorem State.emitSink_chA (s : State) (f : Frame) : (s.emitSink f).chA = s.chA := rfl
@[simp] theorem State.emitSink_chB (s : State) (f : Frame) : (s.emitSink f).chB = s.chB := rfl
@[simp] theorem State.emitSink_rxbuf (s : State) (f : Frame) : (s.emitSink f).rxbuf = s.rxbuf := rfl
@[simp] theorem State.emitSink_tickCnt (s : State) (f : Frame) : (s.emitSink f).tickCnt = s.tickCnt := rfl
@[simp] theorem State.emitSink_pending (s : State) (f : Frame) : (s.emitSink f).pending = s.pending := rfl
@[simp] theorem State.emitSink_cfg (s : State) (f : Frame) : (s.emitSink f).cfg = s.cfg := rfl
@[simp] theorem State.emitSink_trace (s : State) (f : Frame) : (s.emitSink f).trace = s.trace ++ [.sink f (status f)] := rfl
@[simp] theorem State.emitSink_result (s : State) (f : Frame) : (s.emitSink f).result = s.result := rfl
@[simp] theorem State.emitSink_script (s : State) (f : Frame) : (s.emitSink f).script = s.script := rfl
@[simp] theorem State.emitSink_inFmt (s : State) (f : Frame) : (s.emitSink f).inFmt = s.inFmt := rfl
@[simp] theorem State.emitSink_writeMarks (s : State) (f : Frame) : (s.emitSink f).writeMarks = s.writeMarks := rfl

@[simp] theorem State.report_isOpen (s : State) (c : ErrCode) : (s.report c).isOpen = s.isOpen := rfl
@[simp] theorem State.report_running (s : State) (c : ErrCode) : (s.report c).running = s.running := rfl
@[simp] theorem State.report_chA (s : State) (c : ErrCode) : (s.report c).chA = s.chA := rfl
@[simp] theorem State.report_chB (s : State) (c : ErrCode) : (s.report c).chB = s.chB := rfl
@[simp] theorem State.report_rxbuf (s : State) (c : ErrCode) : (s.report c).rxbuf = s.rxbuf := rfl
@[simp] theorem State.report_tickCnt (s : State) (c : ErrCode) : (s.report c).tickCnt = s.tickCnt := rfl
@[simp] theorem State.report_pending (s : State) (c : ErrCode) : (s.report c).pending = s.pending := rfl
@[simp] theorem State.report_cfg (s : State) (c : ErrCode) : (s.report c).cfg = s.cfg := rfl
@[simp] theorem State.report_trace (s : State) (c : ErrCode) : (s.report c).trace = s.trace ++ [.report c] := rfl
@[simp] theorem State.report_result (s : State) (c : ErrCode) : (s.report c).result = s.result := rfl
@[simp] theorem State.report_script (s : State) (c : ErrCode) : (s.report c).script = s.script := rfl
@[simp] theorem State.report_inFmt (s : State) (c : ErrCode) : (s.report c).inFmt = s.inFmt := rfl
@[simp] theorem State.report_writeMarks (s : State) (c : ErrCode) : (s.report c).writeMarks = s.writeMarks := rfl

@[simp] theorem State.deliver_isOpen (s : State) (r : FnResult) : (s.deliver r).isOpen = s.isOpen := rfl
@[simp] theorem State.deliver_running (s : State) (r : FnResult) : (s.deliver r).running = s.running := rfl
@[simp] theorem State.deliver_chA (s : State) (r : FnResult) : (s.deliver r).chA = s.chA := rfl
@[simp] theorem State.deliver_chB (s : State) (r : FnResult) : (s.deliver r).chB = s.chB := rfl
@[simp] theorem State.deliver_rxbuf (s : State) (r : FnResult) : (s.deliver r).rxbuf = s.rxbuf := rfl
@[simp] theorem State.deliver_tickCnt (s : State) (r : FnResult) : (s.deliver r).tickCnt = s.tickCnt := rfl
@[simp] theorem State.deliver_pending (s : State) (r : FnResult) : (s.deliver r).pending = s.pending := rfl
@[simp] theorem State.deliver_cfg (s : State) (r : FnResult) : (s.deliver r).cfg = s.cfg := rfl
@[simp] theorem State.deliver_trace (s : State) (r : FnResult) : (s.deliver r).trace = s.trace := rfl
@[simp] theorem State.deliver_result (s : State) (r : FnResult) : (s.deliver r).result = r := rfl
@[simp] theorem State.deliver_script (s : State) (r : FnResult) : (s.deliver r).script = s.script := rfl
@[simp] theorem State.deliver_inFmt (s : State) (r : FnResult) : (s.deliver r).inFmt = s.inFmt := rfl
@[simp] theorem State.deliver_writeMarks (s : State) (r : FnResult) : (s.deliver r).writeMarks = s.writeMarks := rfl

@[simp] theorem State.taken_isOpen (s : State) (rest : List Byte) : (s.taken rest).isOpen = s.isOpen := rfl
@[simp] theorem State.taken_running (s : State) (rest : List Byte) : (s.taken rest).running = s.running := rfl
@[simp] theorem State.taken_chA (s : State) (rest : List Byte) : (s.taken rest).chA = s.chA := rfl
@[simp] theorem State.taken_chB (s : State) (rest : List Byte) : (s.taken rest).chB = s.chB := rfl
@[simp] theorem State.taken_rxbuf (s : State) (rest : List Byte) : (s.taken rest).rxbuf = s.rxbuf := rfl
@[simp] theorem State.taken_tickCnt (s : State) (rest : List Byte) : (s.taken rest).tickCnt = s.tickCnt := rfl
@[simp] theorem State.taken_pending (s : State) (rest : List Byte) : (s.taken rest).pending = s.pending := rfl
@[simp] theorem State.taken_cfg (s : State) (rest : List Byte) : (s.taken rest).cfg = s.cfg := rfl
@[simp] theorem State.taken_trace (s : State) (rest : List Byte) : (s.taken rest).trace = s.trace := rfl
@[simp] theorem State.taken_result (s : State) (rest : List Byte) : (s.taken rest).result = s.result := rfl
@[simp] theorem State.taken_script (s : State) (rest : List Byte) : (s.taken rest).script = rest := rfl
@[simp] theorem State.taken_inFmt (s : State) (rest : List Byte) : (s.taken rest).inFmt = .evt := rfl
@[simp] theorem State.taken_writeMarks (s : State) (rest : List Byte) : (s.taken rest).writeMarks = s.writeMarks := rfl

@[simp] theorem State.countDown_isOpen (s : State) : (countDown s).isOpen = s.isOpen := rfl
@[simp] theorem State.countDown_running (s : State) : (countDown s).running = s.running := rfl
@[simp] theorem State.countDown_chA (s : State) : (countDown s).chA = s.chA := rfl
@[simp] theorem State.countDown_chB (s : State) : (countDown s).chB = s.chB := rfl
@[simp] theorem State.countDown_rxbuf (s : State) : (countDown s).rxbuf = s.rxbuf := rfl
@[simp] theorem State.countDown_tickCnt (s : State) : (countDown s).tickCnt = s.tickCnt := rfl
@[simp] theorem State.countDown_pending (s : State) : (countDown s).pending = s.pending.map fun e => { e with remaining := e.remaining - 1 } := rfl
@[simp] theorem State.countDown_cfg (s : State) : (countDown s).cfg = s.cfg := rfl
@[simp] theorem State.countDown_trace (s : State) : (countDown s).trace = s.trace := rfl
@[simp] theorem State.countDown_result (s : State) : (countDown s).result = s.result := rfl
@[simp] theorem State.countDown_script (s : State) : (countDown s).script = s.script := rfl
@[simp] theorem State.countDown_inFmt (s : State) : (countDown s).inFmt = s.inFmt := rfl
@[simp] theorem State.countDown_writeMarks (s : State) : (countDown s).writeMarks = s.writeMarks := rfl

@[simp] theorem State.setCh_isOpen (s : State) (x : Chan) (v : ChState) : (s.setCh x v).isOpen = s.isOpen := by cases x <;> rfl
@[simp] theorem State.setCh_running (s : State) (x : Chan) (v : ChState) : (s.setCh x v).running = s.running := by cases x <;> rfl
@[simp] theorem State.setCh_rxbuf (s : State) (x : Chan) (v : ChState) : (s.setCh x v).rxbuf = s.rxbuf := by cases x <;> rfl
@[simp] theorem State.setCh_tickCnt (s : State) (x : Chan) (v : ChState) : (s.setCh x v).tickCnt = s.tickCnt := by cases x <;> rfl
@[simp] theorem State.setCh_pending (s : State) (x : Chan) (v : ChState) : (s.setCh x v).pending = s.pending := by cases x <;> rfl
@[simp] theorem State.setCh_cfg (s : State) (x : Chan) (v : ChState) : (s.setCh x v).cfg = s.cfg := by cases x <;> rfl
@[simp] theorem State.setCh_trace (s : State) (x : Chan) (v : ChState) : (s.setCh x v).trace = s.trace := by cases x <;> rfl
@[simp] theorem State.setCh_result (s : State) (x : Chan) (v : ChState) : (s.setCh x v).result = s.result := by cases x <;> rfl
@[simp] theorem State.setCh_script (s : State) (x : Chan) (v : ChState) : (s.setCh x v).script = s.script := by cases x <;> rfl
@[simp] theorem State.setCh_inFmt (s : State) (x : Chan) (v : ChState) : (s.setCh x v).inFmt = s.inFmt := by cases x <;> rfl
@[simp] theorem State.setCh_writeMarks (s : State) (x : Chan) (v : ChState) : (s.setCh x v).writeMarks = s.writeMarks := by cases x <;> rfl
@[simp] theorem State.setCh_a_chA (s : State) (v : ChState) : (s.setCh .a v).chA = v := rfl
@[simp] theorem State.setCh_a_chB (s : State) (v : ChState) : (s.setCh .a v).chB = s.chB := rfl
@[simp] theorem State.setCh_b_chA (s : State) (v : ChState) : (s.setCh .b v).chA = s.chA := rfl
@[simp] theorem State.setCh_b_chB (s : State) (v : ChState) : (s.setCh .b v).chB = v := rfl
@[simp] theorem State.ch_a (s : State) : s.ch .a = s.chA := rfl
@[simp] theorem State.ch_b (s : State) : s.ch .b = s.chB := rfl
@[simp] theorem State.ch_setCh_same (s : State) (x : Chan) (v : ChState) : (s.setCh x v).ch x = v := by cases x <;> rfl
theorem State.ch_setCh_other (s : State) {x y : Chan} (v : ChState) (h : y ≠ x) : (s.setCh x v).ch y = s.ch y := by
  cases x <;> cases y <;> simp_all

/-- A write changes the trace and the environment's marks only, so both channels read as before. -/
@[simp] theorem State.ch_emitTx (s : State) (f : Frame) (x : Chan) : (s.emitTx f).ch x = s.ch x := by cases x <;> rfl
@[simp] theorem State.ch_emitSink (s : State) (f : Frame) (x : Chan) : (s.emitSink f).ch x = s.ch x := by cases x <;> rfl
@[simp] theorem State.ch_arm (s : State) (x y : Chan) : (s.arm x).ch y = s.ch y := by cases y <;> rfl

end Sys2Proof.Machine
end

