-- ==== Sys2Proof/Laws/Ops.lean ====
section
/-! SUPPORT. What each shared operation can do, said once: what it leaves unchanged, and what it answers. -/

namespace Sys2Proof.Machine

/-! Sending -/

/-- The guarded write: one write with the transport open, nothing with it closed. -/
theorem writeRaw_cases (f : Frame) (s : State) :
    (s.isOpen = true ∧ writeRaw f s = s.emitTx f) ∨ (s.isOpen = false ∧ writeRaw f s = s) := by
  unfold writeRaw
  cases s.isOpen <;> simp

/-- `SEND` is the guarded write of the command frame. -/
theorem sendOp_eq_writeRaw (p : Payload) (s : State) : sendOp p s = writeRaw (commandFrame p) s := rfl

/-- `SEND` in the words of the statements. -/
theorem sendOp_eq_afterSend (p : Payload) (s : State) : sendOp p s = afterSend p s := by
  obtain ⟨isOpen⟩ := s
  cases isOpen
  · simp [sendOp, afterSend]
  · simp [sendOp, afterSend]; rfl

/-- `SEND` attempts its one write and writes nothing else. -/
theorem afterSend_sent (p : Payload) (s : State) : Sent p s (afterSend p s) := by
  refine ⟨⟨if s.writeMarks.headD false then [.report .ioWr] else [], ?_, ?_⟩, rfl⟩
  · intro r hr
    split at hr <;> simp_all
  · simp only [afterSend, wireItems]

/-! The frame of a guarded write -/

@[simp] theorem writeRaw_isOpen (f : Frame) (s : State) : (writeRaw f s).isOpen = s.isOpen := by unfold writeRaw; split <;> rfl
@[simp] theorem writeRaw_running (f : Frame) (s : State) : (writeRaw f s).running = s.running := by unfold writeRaw; split <;> rfl
@[simp] theorem writeRaw_chA (f : Frame) (s : State) : (writeRaw f s).chA = s.chA := by unfold writeRaw; split <;> rfl
@[simp] theorem writeRaw_chB (f : Frame) (s : State) : (writeRaw f s).chB = s.chB := by unfold writeRaw; split <;> rfl
@[simp] theorem writeRaw_rxbuf (f : Frame) (s : State) : (writeRaw f s).rxbuf = s.rxbuf := by unfold writeRaw; split <;> rfl
@[simp] theorem writeRaw_tickCnt (f : Frame) (s : State) : (writeRaw f s).tickCnt = s.tickCnt := by unfold writeRaw; split <;> rfl
@[simp] theorem writeRaw_pending (f : Frame) (s : State) : (writeRaw f s).pending = s.pending := by unfold writeRaw; split <;> rfl
@[simp] theorem writeRaw_cfg (f : Frame) (s : State) : (writeRaw f s).cfg = s.cfg := by unfold writeRaw; split <;> rfl
@[simp] theorem writeRaw_result (f : Frame) (s : State) : (writeRaw f s).result = s.result := by unfold writeRaw; split <;> rfl
@[simp] theorem writeRaw_script (f : Frame) (s : State) : (writeRaw f s).script = s.script := by unfold writeRaw; split <;> rfl
@[simp] theorem writeRaw_inFmt (f : Frame) (s : State) : (writeRaw f s).inFmt = s.inFmt := by unfold writeRaw; split <;> rfl

/-! The frame of `SEND` -/

@[simp] theorem sendOp_isOpen (p : Payload) (s : State) : (sendOp p s).isOpen = s.isOpen := by unfold sendOp; split <;> rfl
@[simp] theorem sendOp_running (p : Payload) (s : State) : (sendOp p s).running = s.running := by unfold sendOp; split <;> rfl
@[simp] theorem sendOp_chA (p : Payload) (s : State) : (sendOp p s).chA = s.chA := by unfold sendOp; split <;> rfl
@[simp] theorem sendOp_chB (p : Payload) (s : State) : (sendOp p s).chB = s.chB := by unfold sendOp; split <;> rfl
@[simp] theorem sendOp_rxbuf (p : Payload) (s : State) : (sendOp p s).rxbuf = s.rxbuf := by unfold sendOp; split <;> rfl
@[simp] theorem sendOp_tickCnt (p : Payload) (s : State) : (sendOp p s).tickCnt = s.tickCnt := by unfold sendOp; split <;> rfl
@[simp] theorem sendOp_pending (p : Payload) (s : State) : (sendOp p s).pending = s.pending := by unfold sendOp; split <;> rfl
@[simp] theorem sendOp_cfg (p : Payload) (s : State) : (sendOp p s).cfg = s.cfg := by unfold sendOp; split <;> rfl
@[simp] theorem sendOp_result (p : Payload) (s : State) : (sendOp p s).result = s.result := by unfold sendOp; split <;> rfl
@[simp] theorem sendOp_script (p : Payload) (s : State) : (sendOp p s).script = s.script := by unfold sendOp; split <;> rfl
@[simp] theorem sendOp_inFmt (p : Payload) (s : State) : (sendOp p s).inFmt = s.inFmt := by unfold sendOp; split <;> rfl

@[simp] theorem sendOp_ch (p : Payload) (s : State) (x : Chan) : (sendOp p s).ch x = s.ch x := by cases x <;> simp

/-! The automation controller -/

/-- `STEP(x, t)` can do four things: nothing, start a cycle, arm the second edge, break (R149). -/
theorem stepChannel_cases (x : Chan) (t : Bool) (s : State) :
    stepChannel x t s = s ∨
    (s.ch x = .idle ∧ t = true ∧ stepChannel x t s = sendOp (vac s.cfg x) (s.setCh x .vacuumsOn)) ∨
    (s.ch x = .vacuumsOn ∧ t = false ∧ stepChannel x t s = s.setCh x .readyForBreak) ∨
    (s.ch x = .readyForBreak ∧ t = true ∧
      stepChannel x t s = (sendOp (brk s.cfg x) (s.setCh x .breaking)).arm x) := by
  unfold stepChannel
  cases hx : s.ch x <;> cases t <;> simp

/-- `STEP(x, _)` leaves the other channel as it is. -/
theorem stepChannel_ch_other {x y : Chan} (t : Bool) (s : State) (h : y ≠ x) :
    (stepChannel x t s).ch y = s.ch y := by
  rcases stepChannel_cases x t s with e | ⟨-, -, e⟩ | ⟨-, -, e⟩ | ⟨-, -, e⟩ <;>
    simp [e, State.ch_setCh_other s _ h]

/-! The frame of `STEP` -/

@[simp] theorem stepChannel_isOpen (x : Chan) (t : Bool) (s : State) : (stepChannel x t s).isOpen = s.isOpen := by unfold stepChannel; split <;> simp
@[simp] theorem stepChannel_running (x : Chan) (t : Bool) (s : State) : (stepChannel x t s).running = s.running := by unfold stepChannel; split <;> simp
@[simp] theorem stepChannel_rxbuf (x : Chan) (t : Bool) (s : State) : (stepChannel x t s).rxbuf = s.rxbuf := by unfold stepChannel; split <;> simp
@[simp] theorem stepChannel_tickCnt (x : Chan) (t : Bool) (s : State) : (stepChannel x t s).tickCnt = s.tickCnt := by unfold stepChannel; split <;> simp
@[simp] theorem stepChannel_cfg (x : Chan) (t : Bool) (s : State) : (stepChannel x t s).cfg = s.cfg := by unfold stepChannel; split <;> simp
@[simp] theorem stepChannel_result (x : Chan) (t : Bool) (s : State) : (stepChannel x t s).result = s.result := by unfold stepChannel; split <;> simp
@[simp] theorem stepChannel_script (x : Chan) (t : Bool) (s : State) : (stepChannel x t s).script = s.script := by unfold stepChannel; split <;> simp
@[simp] theorem stepChannel_inFmt (x : Chan) (t : Bool) (s : State) : (stepChannel x t s).inFmt = s.inFmt := by unfold stepChannel; split <;> simp

/-! The frame of a guarded `STEP` -/

@[simp] theorem guardedStep_isOpen (x y : Chan) (t : Bool) (s : State) : (guardedStep x y t s).isOpen = s.isOpen := by unfold guardedStep; split <;> simp
@[simp] theorem guardedStep_running (x y : Chan) (t : Bool) (s : State) : (guardedStep x y t s).running = s.running := by unfold guardedStep; split <;> simp
@[simp] theorem guardedStep_rxbuf (x y : Chan) (t : Bool) (s : State) : (guardedStep x y t s).rxbuf = s.rxbuf := by unfold guardedStep; split <;> simp
@[simp] theorem guardedStep_tickCnt (x y : Chan) (t : Bool) (s : State) : (guardedStep x y t s).tickCnt = s.tickCnt := by unfold guardedStep; split <;> simp
@[simp] theorem guardedStep_cfg (x y : Chan) (t : Bool) (s : State) : (guardedStep x y t s).cfg = s.cfg := by unfold guardedStep; split <;> simp
@[simp] theorem guardedStep_result (x y : Chan) (t : Bool) (s : State) : (guardedStep x y t s).result = s.result := by unfold guardedStep; split <;> simp
@[simp] theorem guardedStep_script (x y : Chan) (t : Bool) (s : State) : (guardedStep x y t s).script = s.script := by unfold guardedStep; split <;> simp
@[simp] theorem guardedStep_inFmt (x y : Chan) (t : Bool) (s : State) : (guardedStep x y t s).inFmt = s.inFmt := by unfold guardedStep; split <;> simp

/-! The frame of `EVAL` -/

@[simp] theorem evalOp_isOpen (f : Frame) (s : State) : (evalOp f s).isOpen = s.isOpen := by simp [evalOp]
@[simp] theorem evalOp_running (f : Frame) (s : State) : (evalOp f s).running = s.running := by simp [evalOp]
@[simp] theorem evalOp_rxbuf (f : Frame) (s : State) : (evalOp f s).rxbuf = s.rxbuf := by simp [evalOp]
@[simp] theorem evalOp_tickCnt (f : Frame) (s : State) : (evalOp f s).tickCnt = s.tickCnt := by simp [evalOp]
@[simp] theorem evalOp_cfg (f : Frame) (s : State) : (evalOp f s).cfg = s.cfg := by simp [evalOp]
@[simp] theorem evalOp_result (f : Frame) (s : State) : (evalOp f s).result = s.result := by simp [evalOp]
@[simp] theorem evalOp_script (f : Frame) (s : State) : (evalOp f s).script = s.script := by simp [evalOp]
@[simp] theorem evalOp_inFmt (f : Frame) (s : State) : (evalOp f s).inFmt = s.inFmt := by simp [evalOp]

/-! The frame of one consumed frame -/

@[simp] theorem consumeFrame_isOpen (s : State) (f : Frame) : (consumeFrame s f).isOpen = s.isOpen := by unfold consumeFrame; split <;> simp
@[simp] theorem consumeFrame_running (s : State) (f : Frame) : (consumeFrame s f).running = s.running := by unfold consumeFrame; split <;> simp
@[simp] theorem consumeFrame_rxbuf (s : State) (f : Frame) : (consumeFrame s f).rxbuf = s.rxbuf := by unfold consumeFrame; split <;> simp
@[simp] theorem consumeFrame_tickCnt (s : State) (f : Frame) : (consumeFrame s f).tickCnt = s.tickCnt := by unfold consumeFrame; split <;> simp
@[simp] theorem consumeFrame_cfg (s : State) (f : Frame) : (consumeFrame s f).cfg = s.cfg := by unfold consumeFrame; split <;> simp
@[simp] theorem consumeFrame_result (s : State) (f : Frame) : (consumeFrame s f).result = s.result := by unfold consumeFrame; split <;> simp
@[simp] theorem consumeFrame_script (s : State) (f : Frame) : (consumeFrame s f).script = s.script := by unfold consumeFrame; split <;> simp
@[simp] theorem consumeFrame_inFmt (s : State) (f : Frame) : (consumeFrame s f).inFmt = s.inFmt := by unfold consumeFrame; split <;> simp

/-! The frame of the frames of one chunk -/

@[simp] theorem consumeAll_isOpen (fs : List Frame) (s : State) : (fs.foldl consumeFrame s).isOpen = s.isOpen := by
  induction fs generalizing s with
  | nil => rfl
  | cons f fs ih => simp [ih]
@[simp] theorem consumeAll_running (fs : List Frame) (s : State) : (fs.foldl consumeFrame s).running = s.running := by
  induction fs generalizing s with
  | nil => rfl
  | cons f fs ih => simp [ih]
@[simp] theorem consumeAll_rxbuf (fs : List Frame) (s : State) : (fs.foldl consumeFrame s).rxbuf = s.rxbuf := by
  induction fs generalizing s with
  | nil => rfl
  | cons f fs ih => simp [ih]
@[simp] theorem consumeAll_tickCnt (fs : List Frame) (s : State) : (fs.foldl consumeFrame s).tickCnt = s.tickCnt := by
  induction fs generalizing s with
  | nil => rfl
  | cons f fs ih => simp [ih]
@[simp] theorem consumeAll_cfg (fs : List Frame) (s : State) : (fs.foldl consumeFrame s).cfg = s.cfg := by
  induction fs generalizing s with
  | nil => rfl
  | cons f fs ih => simp [ih]
@[simp] theorem consumeAll_result (fs : List Frame) (s : State) : (fs.foldl consumeFrame s).result = s.result := by
  induction fs generalizing s with
  | nil => rfl
  | cons f fs ih => simp [ih]
@[simp] theorem consumeAll_script (fs : List Frame) (s : State) : (fs.foldl consumeFrame s).script = s.script := by
  induction fs generalizing s with
  | nil => rfl
  | cons f fs ih => simp [ih]
@[simp] theorem consumeAll_inFmt (fs : List Frame) (s : State) : (fs.foldl consumeFrame s).inFmt = s.inFmt := by
  induction fs generalizing s with
  | nil => rfl
  | cons f fs ih => simp [ih]

/-! The frame of `RX` -/

@[simp] theorem receive_isOpen (c : List Byte) (s : State) : (receive c s).isOpen = s.isOpen := by unfold receive; split <;> simp
@[simp] theorem receive_running (c : List Byte) (s : State) : (receive c s).running = s.running := by unfold receive; split <;> simp
@[simp] theorem receive_tickCnt (c : List Byte) (s : State) : (receive c s).tickCnt = s.tickCnt := by unfold receive; split <;> simp
@[simp] theorem receive_cfg (c : List Byte) (s : State) : (receive c s).cfg = s.cfg := by unfold receive; split <;> simp
@[simp] theorem receive_result (c : List Byte) (s : State) : (receive c s).result = s.result := by unfold receive; split <;> simp
@[simp] theorem receive_script (c : List Byte) (s : State) : (receive c s).script = s.script := by unfold receive; split <;> simp
@[simp] theorem receive_inFmt (c : List Byte) (s : State) : (receive c s).inFmt = s.inFmt := by unfold receive; split <;> simp

/-! The deferred actions and the scheduler -/

/-- `FIRE` does nothing, or performs the head entry (R151). -/
theorem fireOp_cases (s : State) :
    (s.pending = [] ∧ fireOp s = s) ∨
    (∃ e rest, s.pending = e :: rest ∧
      fireOp s = (sendOp Config.zero9 { s with pending := rest }).setCh e.ch .idle) := by
  unfold fireOp
  cases h : s.pending <;> simp

/-- `FIRE` removes the head entry. -/
@[simp] theorem fireOp_pending (s : State) : (fireOp s).pending = s.pending.tail := by
  rcases fireOp_cases s with ⟨h, e⟩ | ⟨e, rest, h, e'⟩ <;> simp [*]

/-- `TICK` is one call of `SEND` while automation runs, and nothing else (R171, R172). -/
theorem tickOp_cases (s : State) :
    (s.running = true ∧ tickOp s = sendOp (tickPayload s) s) ∨ (s.running = false ∧ tickOp s = s) := by
  unfold tickOp
  cases s.running <;> simp

/-! The frame of `FIRE` -/

@[simp] theorem fireOp_isOpen (s : State) : (fireOp s).isOpen = s.isOpen := by unfold fireOp; split <;> simp
@[simp] theorem fireOp_running (s : State) : (fireOp s).running = s.running := by unfold fireOp; split <;> simp
@[simp] theorem fireOp_rxbuf (s : State) : (fireOp s).rxbuf = s.rxbuf := by unfold fireOp; split <;> simp
@[simp] theorem fireOp_tickCnt (s : State) : (fireOp s).tickCnt = s.tickCnt := by unfold fireOp; split <;> simp
@[simp] theorem fireOp_cfg (s : State) : (fireOp s).cfg = s.cfg := by unfold fireOp; split <;> simp
@[simp] theorem fireOp_result (s : State) : (fireOp s).result = s.result := by unfold fireOp; split <;> simp
@[simp] theorem fireOp_script (s : State) : (fireOp s).script = s.script := by unfold fireOp; split <;> simp
@[simp] theorem fireOp_inFmt (s : State) : (fireOp s).inFmt = s.inFmt := by unfold fireOp; split <;> simp

/-! The frame of `TICK` -/

@[simp] theorem tickOp_isOpen (s : State) : (tickOp s).isOpen = s.isOpen := by unfold tickOp; split <;> simp
@[simp] theorem tickOp_running (s : State) : (tickOp s).running = s.running := by unfold tickOp; split <;> simp
@[simp] theorem tickOp_chA (s : State) : (tickOp s).chA = s.chA := by unfold tickOp; split <;> simp
@[simp] theorem tickOp_chB (s : State) : (tickOp s).chB = s.chB := by unfold tickOp; split <;> simp
@[simp] theorem tickOp_rxbuf (s : State) : (tickOp s).rxbuf = s.rxbuf := by unfold tickOp; split <;> simp
@[simp] theorem tickOp_tickCnt (s : State) : (tickOp s).tickCnt = s.tickCnt := by unfold tickOp; split <;> simp
@[simp] theorem tickOp_pending (s : State) : (tickOp s).pending = s.pending := by unfold tickOp; split <;> simp
@[simp] theorem tickOp_cfg (s : State) : (tickOp s).cfg = s.cfg := by unfold tickOp; split <;> simp
@[simp] theorem tickOp_result (s : State) : (tickOp s).result = s.result := by unfold tickOp; split <;> simp
@[simp] theorem tickOp_script (s : State) : (tickOp s).script = s.script := by unfold tickOp; split <;> simp
@[simp] theorem tickOp_inFmt (s : State) : (tickOp s).inFmt = s.inFmt := by unfold tickOp; split <;> simp

/-! The frame of the due firings of one strobe -/

@[simp] theorem fireDue_isOpen (n : Nat) (s : State) : (fireDue n s).isOpen = s.isOpen := by
  induction n generalizing s with
  | zero => rfl
  | succ n ih => unfold fireDue; split <;> [rfl; (split <;> simp [ih])]
@[simp] theorem fireDue_running (n : Nat) (s : State) : (fireDue n s).running = s.running := by
  induction n generalizing s with
  | zero => rfl
  | succ n ih => unfold fireDue; split <;> [rfl; (split <;> simp [ih])]
@[simp] theorem fireDue_rxbuf (n : Nat) (s : State) : (fireDue n s).rxbuf = s.rxbuf := by
  induction n generalizing s with
  | zero => rfl
  | succ n ih => unfold fireDue; split <;> [rfl; (split <;> simp [ih])]
@[simp] theorem fireDue_tickCnt (n : Nat) (s : State) : (fireDue n s).tickCnt = s.tickCnt := by
  induction n generalizing s with
  | zero => rfl
  | succ n ih => unfold fireDue; split <;> [rfl; (split <;> simp [ih])]
@[simp] theorem fireDue_cfg (n : Nat) (s : State) : (fireDue n s).cfg = s.cfg := by
  induction n generalizing s with
  | zero => rfl
  | succ n ih => unfold fireDue; split <;> [rfl; (split <;> simp [ih])]
@[simp] theorem fireDue_result (n : Nat) (s : State) : (fireDue n s).result = s.result := by
  induction n generalizing s with
  | zero => rfl
  | succ n ih => unfold fireDue; split <;> [rfl; (split <;> simp [ih])]
@[simp] theorem fireDue_script (n : Nat) (s : State) : (fireDue n s).script = s.script := by
  induction n generalizing s with
  | zero => rfl
  | succ n ih => unfold fireDue; split <;> [rfl; (split <;> simp [ih])]
@[simp] theorem fireDue_inFmt (n : Nat) (s : State) : (fireDue n s).inFmt = s.inFmt := by
  induction n generalizing s with
  | zero => rfl
  | succ n ih => unfold fireDue; split <;> [rfl; (split <;> simp [ih])]

/-! The frame of the scheduler's strobe -/

@[simp] theorem schedulerStrobe_isOpen (s : State) : (schedulerStrobe s).isOpen = s.isOpen := by unfold schedulerStrobe; split <;> [(split <;> simp); rfl]
@[simp] theorem schedulerStrobe_running (s : State) : (schedulerStrobe s).running = s.running := by unfold schedulerStrobe; split <;> [(split <;> simp); rfl]
@[simp] theorem schedulerStrobe_chA (s : State) : (schedulerStrobe s).chA = s.chA := by unfold schedulerStrobe; split <;> [(split <;> simp); rfl]
@[simp] theorem schedulerStrobe_chB (s : State) : (schedulerStrobe s).chB = s.chB := by unfold schedulerStrobe; split <;> [(split <;> simp); rfl]
@[simp] theorem schedulerStrobe_rxbuf (s : State) : (schedulerStrobe s).rxbuf = s.rxbuf := by unfold schedulerStrobe; split <;> [(split <;> simp); rfl]
@[simp] theorem schedulerStrobe_pending (s : State) : (schedulerStrobe s).pending = s.pending := by unfold schedulerStrobe; split <;> [(split <;> simp); rfl]
@[simp] theorem schedulerStrobe_cfg (s : State) : (schedulerStrobe s).cfg = s.cfg := by unfold schedulerStrobe; split <;> [(split <;> simp); rfl]
@[simp] theorem schedulerStrobe_result (s : State) : (schedulerStrobe s).result = s.result := by unfold schedulerStrobe; split <;> [(split <;> simp); rfl]
@[simp] theorem schedulerStrobe_script (s : State) : (schedulerStrobe s).script = s.script := by unfold schedulerStrobe; split <;> [(split <;> simp); rfl]
@[simp] theorem schedulerStrobe_inFmt (s : State) : (schedulerStrobe s).inFmt = s.inFmt := by unfold schedulerStrobe; split <;> [(split <;> simp); rfl]

/-! The frame of `TB` -/

@[simp] theorem strobe_isOpen (s : State) : (strobe s).isOpen = s.isOpen := by simp [strobe]
@[simp] theorem strobe_running (s : State) : (strobe s).running = s.running := by simp [strobe]
@[simp] theorem strobe_rxbuf (s : State) : (strobe s).rxbuf = s.rxbuf := by simp [strobe]
@[simp] theorem strobe_cfg (s : State) : (strobe s).cfg = s.cfg := by simp [strobe]
@[simp] theorem strobe_result (s : State) : (strobe s).result = s.result := by simp [strobe]
@[simp] theorem strobe_script (s : State) : (strobe s).script = s.script := by simp [strobe]
@[simp] theorem strobe_inFmt (s : State) : (strobe s).inFmt = s.inFmt := by simp [strobe]

/-! The decoder's pass -/

/-- Taking `n` bytes: they and the rest make up the list, which had at least `n`. -/
theorem takeBytes_eq_some {n : Nat} {bs rest : List Byte} {p : Bytes n} :
    takeBytes n bs = some (p, rest) ↔ bs = p.1 ++ rest := by
  obtain ⟨p, hp⟩ := p
  unfold takeBytes
  split
  · next h =>
    simp only [Option.some.injEq, Prod.mk.injEq, Subtype.mk.injEq]
    constructor
    · rintro ⟨rfl, rfl⟩; simp
    · rintro rfl; simp [← hp]
  · next h =>
    constructor
    · simp
    · rintro rfl; simp [hp] at h

/-- Taking `n` bytes fails exactly on a shorter list. -/
theorem takeBytes_eq_none {n : Nat} {bs : List Byte} : takeBytes n bs = none ↔ bs.length < n := by
  unfold takeBytes
  split <;> simp_all

/-- Taking the bytes that were put in front. -/
@[simp] theorem takeBytes_append {n : Nat} (p : Bytes n) (rest : List Byte) :
    takeBytes n (p.1 ++ rest) = some (p, rest) := takeBytes_eq_some.mpr rfl

/-- What is left after dropping the bytes ahead of the first marker is empty or starts with it. -/
theorem anchored_head (buf : List Byte) :
    buf.dropWhile (· != Config.stxIn) = [] ∨
    (buf.dropWhile (· != Config.stxIn)).head? = some Config.stxIn := by
  induction buf with
  | nil => simp
  | cons b bs ih =>
    by_cases h : b = Config.stxIn
    · simp [h]
    · simpa [h] using ih

/-- More turns than a pass needs change nothing: a turn that goes on removes 16 bytes (R124). -/
theorem decodeLoop_enough (n m : Nat) (buf : List Byte) (hn : buf.length < 16 * n) (hm : buf.length < 16 * m) :
    decodeLoop n buf = decodeLoop m buf := by
  induction n generalizing m buf with
  | zero => omega
  | succ n ih =>
    cases m with
    | zero => omega
    | succ m =>
      simp only [decodeLoop]
      cases h : takeBytes 16 (buf.dropWhile (· != Config.stxIn)) with
      | none => rfl
      | some fr =>
        obtain ⟨f, rest⟩ := fr
        have hlen := congrArg List.length (takeBytes_eq_some.mp h)
        have hle := (List.dropWhile_sublist (· != Config.stxIn) (l := buf)).length_le
        simp only [List.length_append, f.2] at hlen
        simp only [ih m rest (by omega) (by omega)]

/-- One turn of `DECODE` and then the rest of the pass (R123). -/
theorem decodeBuf_unfold (buf : List Byte) :
    decodeBuf buf =
      match takeBytes 16 (buf.dropWhile (· != Config.stxIn)) with
      | none => ([], buf.dropWhile (· != Config.stxIn))
      | some (f, rest) => (f :: (decodeBuf rest).1, (decodeBuf rest).2) := by
  conv => lhs; unfold decodeBuf
  simp only [decodeLoop]
  cases h : takeBytes 16 (buf.dropWhile (· != Config.stxIn)) with
  | none => rfl
  | some fr =>
    obtain ⟨f, rest⟩ := fr
    have hlen := congrArg List.length (takeBytes_eq_some.mp h)
    have hle := (List.dropWhile_sublist (· != Config.stxIn) (l := buf)).length_le
    simp only [List.length_append, f.2] at hlen
    simp only [decodeBuf, decodeLoop_enough (buf.length / 16) (rest.length / 16 + 1) rest (by omega) (by omega)]

/-- A pass leaves the buffer in the form of R27: what stands here in the place of a memory's canonical form. -/
theorem decodeBuf_keeps_RxbufOk (buf : List Byte) : RxbufOk (decodeBuf buf).2 := by
  induction hn : buf.length using Nat.strong_induction_on generalizing buf with
  | _ n ih =>
    rw [decodeBuf_unfold]
    cases h : takeBytes 16 (buf.dropWhile (· != Config.stxIn)) with
    | none =>
      rcases anchored_head buf with h0 | h0
      · exact .inl h0
      · exact .inr ⟨takeBytes_eq_none.mp h, h0⟩
    | some fr =>
      obtain ⟨f, rest⟩ := fr
      have hlen := congrArg List.length (takeBytes_eq_some.mp h)
      have hle := (List.dropWhile_sublist (· != Config.stxIn) (l := buf)).length_le
      simp only [List.length_append, f.2] at hlen
      exact ih rest.length (by omega) rest rfl

/-- `RX` keeps the form of the buffer. -/
theorem receive_keeps_RxbufOk (c : List Byte) (s : State) (h : RxbufOk s.rxbuf) : RxbufOk (receive c s).rxbuf := by
  unfold receive
  split
  · simpa using decodeBuf_keeps_RxbufOk _
  · exact h

end Sys2Proof.Machine
end

