-- ==== Sys2Proof/Laws/PerInstr.lean ====
section
/-! SUPPORT. Facts about every instruction as it is written down, one lemma per constructor. -/

namespace Sys2Proof.Laws

/-- An instruction's word has the number of bytes of `Instr.size` (R89; log 4 for functions). -/
def EncodedSize.Statement (i : Instr) : Prop := (encode i).length = i.size

theorem EncodedSize.connect : EncodedSize.Statement .connect := rfl
theorem EncodedSize.disconnect : EncodedSize.Statement .disconnect := rfl
theorem EncodedSize.start : EncodedSize.Statement .start := rfl
theorem EncodedSize.stop : EncodedSize.Statement .stop := rfl
theorem EncodedSize.sendcmd (p : Payload) : EncodedSize.Statement (.sendcmd p) := by
  simp [EncodedSize.Statement, encode, Instr.size, p.2]
theorem EncodedSize.sendraw (b : Frame) : EncodedSize.Statement (.sendraw b) := by
  simp [EncodedSize.Statement, encode, Instr.size, b.2]
theorem EncodedSize.rx (chunk : List Byte) : EncodedSize.Statement (.rx chunk) := by
  simp [EncodedSize.Statement, encode, counted, Instr.size]; omega
theorem EncodedSize.rxfail : EncodedSize.Statement .rxfail := rfl
theorem EncodedSize.tb : EncodedSize.Statement .tb := rfl
theorem EncodedSize.tick : EncodedSize.Statement .tick := rfl
theorem EncodedSize.fire : EncodedSize.Statement .fire := rfl
theorem EncodedSize.crc16 (bytes : List Byte) : EncodedSize.Statement (.crc16 bytes) := by
  simp [EncodedSize.Statement, encode, counted, Instr.size]; omega
theorem EncodedSize.encode (a c : Byte) (payload : List Byte) : EncodedSize.Statement (.encode a c payload) := by
  simp [EncodedSize.Statement, Sys2Proof.encode, Instr.size]; omega
theorem EncodedSize.decode : EncodedSize.Statement .decode := rfl
theorem EncodedSize.eval (f : Frame) : EncodedSize.Statement (.eval f) := by
  simp [EncodedSize.Statement, Sys2Proof.encode, Instr.size, f.2]
theorem EncodedSize.send (p : Payload) : EncodedSize.Statement (.send p) := by
  simp [EncodedSize.Statement, Sys2Proof.encode, Instr.size, p.2]
theorem EncodedSize.txframe (p : Payload) (hi lo : Byte) : EncodedSize.Statement (.txframe p hi lo) :=
  (tx16Bytes Config.addr Config.cmd p hi lo).2
theorem EncodedSize.txframeEncode (a c : Byte) (p : Payload) (hi lo : Byte) :
    EncodedSize.Statement (.txframeEncode a c p hi lo) := (tx16Bytes a c p hi lo).2
theorem EncodedSize.txframePoll : EncodedSize.Statement .txframePoll := rfl
theorem EncodedSize.rxframe (f : Frame) : EncodedSize.Statement (.rxframe f) := f.2
theorem EncodedSize.rxframeTrigb (f : Frame) : EncodedSize.Statement (.rxframeTrigb f) := f.2
theorem EncodedSize.rxframeTriga : EncodedSize.Statement .rxframeTriga := rfl

end Sys2Proof.Laws
end

