-- ==== Sys2Proof/Tests/Slice0.lean ====
section
/-! SUPPORT. Tests: words of the spec decode, ill-formed terms are refused, one step of each instruction on the spec's own
vectors (spec/95_test_vectors.md, `V<n>`), and a witness for every statement with hypotheses. -/

namespace Sys2Proof.Tests
open Sys2Proof Sys2Proof.Machine

/-! Helpers: the instantiation T0 and the named frames of spec/95_test_vectors.md sections 0.1 and 0.2. -/

def frameFA : Frame := ⟨[0x44, 0, 0, 0, 1, 0, 0, 0, 0, 0, 0, 0, 0, 0, 0, 0], rfl⟩
def frameFB : Frame := ⟨[0x44, 0, 0, 0, 0, 0, 0, 0, 0, 0, 4, 0, 0, 0, 0, 0], rfl⟩
def frameFN : Frame := ⟨[0x44, 0, 0, 0, 0, 0, 0, 0, 0, 0, 0, 0, 0, 0, 0, 0], rfl⟩
def frameFAB : Frame := ⟨[0x44, 0, 0, 0, 1, 0, 0, 0, 0, 0, 4, 0, 0, 0, 0, 0], rfl⟩
def frameF1 : Frame :=
  ⟨[0x44, 0x01, 0x02, 0x03, 0x11, 0x12, 0x13, 0x14, 0x15, 0x16, 0x17, 0x18, 0x19, 0xA1, 0xA2, 0xA3], rfl⟩
def framePF : Frame := ⟨[0x22, 0x10, 0x03, 0x85, 0, 0, 0, 0, 0, 0, 0, 0, 0, 0x52, 0xD9, 0x33], rfl⟩
def frameVA : Frame := ⟨[0x22, 0x10, 0x03, 0x85, 1, 0, 0, 0, 0, 0, 0, 0, 0, 0xD4, 0xBA, 0x33], rfl⟩
def frameBA : Frame := ⟨[0x22, 0x10, 0x03, 0x85, 2, 0, 0, 0, 0, 0, 0, 0, 0, 0xDE, 0x1A, 0x33], rfl⟩
def frameVB : Frame := ⟨[0x22, 0x10, 0x03, 0x85, 0, 1, 0, 0, 0, 0, 0, 0, 0, 0x42, 0xDF, 0x33], rfl⟩
def frameBB : Frame := ⟨[0x22, 0x10, 0x03, 0x85, 0, 2, 0, 0, 0, 0, 0, 0, 0, 0x72, 0xD5, 0x33], rfl⟩
def frameRaw : Frame :=
  ⟨[0x00, 0x11, 0x22, 0x33, 0x44, 0x55, 0x66, 0x77, 0x88, 0x99, 0xAA, 0xBB, 0xCC, 0xDD, 0xEE, 0xFF], rfl⟩
def count9 : Payload := ⟨[1, 2, 3, 4, 5, 6, 7, 8, 9], rfl⟩

def t0 : Config.Params where
  refA := frameFA
  vacA := ⟨[1, 0, 0, 0, 0, 0, 0, 0, 0], rfl⟩
  brkA := ⟨[2, 0, 0, 0, 0, 0, 0, 0, 0], rfl⟩
  vacB := ⟨[0, 1, 0, 0, 0, 0, 0, 0, 0], rfl⟩
  brkB := ⟨[0, 2, 0, 0, 0, 0, 0, 0, 0], rfl⟩
  evalGated := true

/-- A state with the four flags as given, the parameters `T0`, and everything else as at reset. -/
def st (isOpen running : Bool) (a b : ChState) : State :=
  { State.reset with isOpen := isOpen, running := running, chA := a, chB := b, cfg := t0 }

/-- What `f` reads from the next state, if there is one. -/
def got {α : Type} (o : Host.Outcome State Fault Refusal) (f : State → α) : Option α :=
  match o with
  | .next t => some (f t)
  | .fault _ => none
  | .refused _ => none

/-- The refusal, if there is one. -/
def refusal (o : Host.Outcome State Fault Refusal) : Option Refusal :=
  match o with
  | .next _ => none
  | .fault _ => none
  | .refused r => some r

/-! Decoding: words written out from R79, R89, R70, R74 (functions: log 4) -/

theorem test_decode_connect : decode .evt [0x01, 0x99] = .ok .connect [0x99] := by decide
theorem test_decode_disconnect : decode .evt [0x02] = .ok .disconnect [] := by decide
theorem test_decode_start : decode .evt [0x03] = .ok .start [] := by decide
theorem test_decode_stop : decode .evt [0x04] = .ok .stop [] := by decide
theorem test_decode_sendcmd : decode .evt [0x05, 1, 2, 3, 4, 5, 6, 7, 8, 9, 0xAA] = .ok (.sendcmd count9) [0xAA] := by decide
theorem test_decode_sendraw :
    decode .evt (0x06 :: [0x00, 0x11, 0x22, 0x33, 0x44, 0x55, 0x66, 0x77, 0x88, 0x99, 0xAA, 0xBB, 0xCC, 0xDD, 0xEE, 0xFF]) =
      .ok (.sendraw frameRaw) [] := by decide
/-- Program P2, fifth event. -/
theorem test_decode_rx : decode .evt [0x07, 0x03, 0x44, 0xEE, 0xEE, 0x02] = .ok (.rx [0x44, 0xEE, 0xEE]) [0x02] := by decide
theorem test_decode_rxfail : decode .evt [0x08] = .ok .rxfail [] := by decide
theorem test_decode_tb : decode .evt [0x09] = .ok .tb [] := by decide
theorem test_decode_tick : decode .evt [0x0A] = .ok .tick [] := by decide
theorem test_decode_fire : decode .evt [0x0B] = .ok .fire [] := by decide
theorem test_decode_crc16 : decode .fn [0x00, 0x02, 0x12, 0x34] = .ok (.crc16 [0x12, 0x34]) [] := by decide
theorem test_decode_encode :
    decode .fn [0x01, 0x03, 0x85, 1, 2, 3, 4, 5, 6, 7, 8, 9] = .ok (.encode 0x03 0x85 [1, 2, 3, 4, 5, 6, 7, 8, 9]) [] := by decide
theorem test_decode_decode : decode .fn [0x02] = .ok .decode [] := by decide
theorem test_decode_eval : decode .fn (0x03 :: [0x44, 0, 0, 0, 1, 0, 0, 0, 0, 0, 0, 0, 0, 0, 0, 0]) = .ok (.eval frameFA) [] := by decide
theorem test_decode_send : decode .fn [0x04, 1, 2, 3, 4, 5, 6, 7, 8, 9] = .ok (.send count9) [] := by decide
/-- Frame V27. -/
theorem test_decode_txframe :
    decode .tx16 [0x22, 0x10, 0x03, 0x85, 1, 2, 3, 4, 5, 6, 7, 8, 9, 0x5E, 0x42, 0x33] = .ok (.txframe count9 0x5E 0x42) [] := by decide
/-- Frame V28. -/
theorem test_decode_txframe_encode :
    decode .tx16 [0x22, 0x10, 0x01, 0x80, 0, 0, 0, 0, 0, 0, 0, 0, 0, 0x98, 0x1B, 0x33] =
      .ok (.txframeEncode 0x01 0x80 Config.zero9 0x98 0x1B) [] := by decide
/-- Frame V20. -/
theorem test_decode_txframe_poll :
    decode .tx16 [0x22, 0x10, 0x03, 0x85, 0, 0, 0, 0, 0, 0, 0, 0, 0, 0x52, 0xD9, 0x33] = .ok .txframePoll [] := by decide
theorem test_decode_rxframe :
    decode .rx16 [0x44, 0x01, 0x02, 0x03, 0x11, 0x12, 0x13, 0x14, 0x15, 0x16, 0x17, 0x18, 0x19, 0xA1, 0xA2, 0xA3] =
      .ok (.rxframe frameF1) [] := by decide
theorem test_decode_rxframe_trigb :
    decode .rx16 [0x44, 0, 0, 0, 0, 0, 0, 0, 0, 0, 4, 0, 0, 0, 0, 0] = .ok (.rxframeTrigb frameFB) [] := by decide
theorem test_decode_rxframe_triga : decode .rx16Ref [0x01] = .ok .rxframeTriga [0x01] := by decide

/-! Words that are no instruction (V82, R70, R74) -/

theorem test_refuse_reserved_op : decode .evt [0x0C] = .bad (.reservedOp 0x0C) := by decide
theorem test_refuse_op_zero : decode .evt [0x00] = .bad (.reservedOp 0x00) := by decide
theorem test_refuse_high_nibble : decode .evt [0x11] = .bad (.highNibble 0x11) := by decide
theorem test_refuse_reserved_fn : decode .fn [0x05] = .bad (.reservedFn 0x05) := by decide
theorem test_refuse_short_payload : decode .evt [0x05, 1, 2, 3, 4, 5, 6, 7, 8] = .bad .truncated := by decide
theorem test_refuse_not_tx16 :
    decode .tx16 [0x22, 0x11, 0x03, 0x85, 0, 0, 0, 0, 0, 0, 0, 0, 0, 0x52, 0xD9, 0x33] = .bad .notTx16 := by decide
theorem test_refuse_not_rx16 : decode .rx16 [0x45, 0, 0, 0, 0, 0, 0, 0, 0, 0, 4, 0, 0, 0, 0, 0] = .bad .notRx16 := by decide

/-! Opcode-table words (log 10) -/

theorem test_table_word_tick : decodeTableWord 8 0xA = some .tick := by decide
theorem test_table_word_crc16 : decodeTableWord 8 0 = some (.crc16 []) := by decide
theorem test_table_word_fn_is_three_bits : decodeTableWord 3 1 = some (.encode 0 0 Config.zero9.1) := by decide
/-- R84: reserved ops and functions name no operation, in the widths R79 gives them. -/
theorem test_table_word_reserved :
    (∀ w ∈ [0x0, 0xC, 0xD, 0xE, 0xF], decodeTableWord 4 w = none) ∧ (∀ w ∈ [5, 6, 7], decodeTableWord 3 w = none) ∧
      decodeTableWord 8 0xC = none ∧ decodeTableWord 8 0x10 = none := by decide
theorem test_table_word_reserved_is_refused :
    refusal (step (State.reset.withFetchWord 4 0)) = some (.illFormedScript (.reservedOp 0)) := by decide
theorem test_table_word_poll : decodeTableWord 128 0x2210038500000000000000000052D933 = some .txframePoll := by decide
theorem test_table_word_runs : got (step (State.reset.withFetchWord 8 1)) (·.isOpen) = some true := by decide

/-! WellFormed refuses an ill-formed term for each of its checks -/

theorem test_wf_rx_too_long : (Instr.rx (List.replicate 256 0)).wellFormed = false := by decide +kernel
theorem test_wf_rx_longest : (Instr.rx (List.replicate 255 0)).wellFormed = true := by decide +kernel
theorem test_wf_crc16_too_long : (Instr.crc16 (List.replicate 256 0)).wellFormed = false := by decide +kernel
theorem test_wf_encode_short : (Instr.encode 3 0x85 [0, 0, 0, 0, 0, 0, 0, 0]).wellFormed = false := by decide
theorem test_wf_eval_unanchored : (Instr.eval frameRaw).wellFormed = false := by decide
theorem test_wf_txframe_is_poll : (Instr.txframe Config.zero9 0x52 0xD9).wellFormed = false := by decide
theorem test_wf_txframe_encode_is_txframe : (Instr.txframeEncode 0x03 0x85 count9 0 0).wellFormed = false := by decide
theorem test_wf_rxframe_unanchored : (Instr.rxframe frameRaw).wellFormed = false := by decide
theorem test_wf_rxframe_is_trigb : (Instr.rxframe frameFB).wellFormed = false := by decide
theorem test_wf_trigb_without_byte : (Instr.rxframeTrigb frameFN).wellFormed = false := by decide

/-! One step of each instruction, on the spec's vectors -/

/-- V71, second CONNECT: the fragment is dropped, nothing is sent. -/
theorem test_connect_empties_buffer :
    got (exec .connect { st true false .idle .idle with rxbuf := [0x44, 1, 2] }) (fun t => (t.isOpen, t.rxbuf, t.trace)) =
      some (true, [], []) := by decide
/-- R192's example: automation survives. -/
theorem test_disconnect_keeps_automation :
    got (exec .disconnect { st true true .idle .vacuumsOn with rxbuf := [0x44, 1, 2] })
      (fun t => (t.isOpen, t.rxbuf, t.chB, t.running)) = some (false, [], .vacuumsOn, true) := by decide
/-- V75. -/
theorem test_start_keeps_buffer_and_pending :
    got (exec .start { st true false .vacuumsOn .idle with rxbuf := [0x44, 1], tickCnt := 37, pending := [⟨.a, 500⟩] })
      (fun t => (t.running, t.chA, t.rxbuf, t.tickCnt, t.pending)) = some (true, .idle, [0x44, 1], 0, [⟨.a, 500⟩]) := by decide
/-- V76. -/
theorem test_stop_sends_nothing_and_keeps_pending :
    got (exec .stop { st true true .idle .readyForBreak with tickCnt := 63, pending := [⟨.a, 500⟩] })
      (fun t => (t.running, t.chB, t.tickCnt, t.pending, t.trace)) = some (false, .idle, 0, [⟨.a, 500⟩], []) := by decide
/-- Program P1, O[1]: the frame V27. -/
theorem test_sendcmd_writes_frame :
    got (exec (.sendcmd count9) (st true false .idle .idle)) (·.trace) =
      some [.tx ⟨[0x22, 0x10, 0x03, 0x85, 1, 2, 3, 4, 5, 6, 7, 8, 9, 0x5E, 0x42, 0x33], rfl⟩] := by decide +kernel
/-- V72. -/
theorem test_sendcmd_closed_is_silent : got (exec (.sendcmd count9) (st false false .idle .idle)) (·.trace) = some [] := by decide
/-- V74. -/
theorem test_sendraw_verbatim : got (exec (.sendraw frameRaw) (st true false .idle .idle)) (·.trace) = some [.tx frameRaw] := by decide
/-- V46: a false anchor swallows the true frame. -/
theorem test_rx_false_anchor :
    got (exec (.rx ([0x44, 0xFF] ++ frameFB.1)) (st true false .idle .idle)) (fun t => (t.rxbuf, sinks t.trace)) =
      some ([], [⟨[0x44, 0xFF, 0x44, 0, 0, 0, 0, 0, 0, 0, 0, 0, 4, 0, 0, 0], rfl⟩]) := by decide +kernel
/-- R129's example: status bytes are offsets 4 to 12, the trailing marker stays. -/
theorem test_rx_delivers_status :
    got (exec (.rx ([0xFF] ++ frameFB.1 ++ [0x44])) (st true false .idle .idle)) (fun t => (t.rxbuf, t.trace)) =
      some ([0x44], [.sink frameFB ⟨[0, 0, 0, 0, 0, 0, 4, 0, 0], rfl⟩]) := by decide +kernel
/-- V81. -/
theorem test_rxfail_reports_when_closed : got (exec .rxfail (st false false .idle .idle)) (·.trace) = some [.report .ioRd] := by decide
/-- V68: the firing, then the tick, in one strobe. -/
theorem test_tb_fires_then_ticks :
    got (exec .tb { st true true .breaking .idle with tickCnt := 99, pending := [⟨.a, 1⟩] })
      (fun t => (t.chA, t.tickCnt, t.pending, t.trace)) = some (.idle, 0, [], [.tx framePF, .tx framePF]) := by decide +kernel
/-- V63: Breaking gets the poll. -/
theorem test_tick_breaking_gets_poll :
    got (exec .tick (st true true .breaking .idle)) (·.trace) = some [.tx framePF] := by decide +kernel
/-- Section 2.5, last paragraph: with both channels in a hold state A wins. -/
theorem test_tick_a_before_b :
    got (exec .tick (st true true .vacuumsOn .vacuumsOn)) (·.trace) = some [.tx frameVA] := by decide +kernel
/-- V58: a stale firing while the other channel is active. -/
theorem test_fire_leaves_other_channel :
    got (exec .fire { st true true .idle .vacuumsOn with pending := [⟨.a, 1000⟩] })
      (fun t => (t.chA, t.chB, t.pending, t.trace)) = some (.idle, .vacuumsOn, [], [.tx framePF]) := by decide +kernel
/-- V10. -/
theorem test_crc16_check_value :
    got (exec (.crc16 [0x31, 0x32, 0x33, 0x34, 0x35, 0x36, 0x37, 0x38, 0x39]) State.reset) (·.result) = some (.crc 0xFEE8) := by decide +kernel
/-- V28. -/
theorem test_encode_other_address :
    got (exec (.encode 0x01 0x80 [0, 0, 0, 0, 0, 0, 0, 0, 0]) State.reset) (·.result) =
      some (.frame ⟨[0x22, 0x10, 0x01, 0x80, 0, 0, 0, 0, 0, 0, 0, 0, 0, 0x98, 0x1B, 0x33], rfl⟩) := by decide +kernel
/-- V32. -/
theorem test_encode_refuses_eight_bytes :
    refusal (exec (.encode 3 0x85 [0, 0, 0, 0, 0, 0, 0, 0]) State.reset) = some (.contractViolation 8) := by decide
/-- V48: a whole frame and the longest fragment. -/
theorem test_decode_row_keeps_longest_fragment :
    got (exec .decode { State.reset with rxbuf := frameF1.1 ++ frameFB.1.take 15 }) (fun t => (t.result, t.rxbuf)) =
      some (.frames [frameF1], [0x44, 0, 0, 0, 0, 0, 0, 0, 0, 0, 4, 0, 0, 0, 0]) := by decide +kernel
/-- V57 event 1, under T1: a frame that asserts both triggers starts A only. -/
theorem test_eval_both_triggers_starts_a :
    got (exec (.eval frameFAB) { st true true .idle .idle with cfg := { t0 with refA := frameFAB } })
      (fun t => (t.chA, t.chB, t.trace)) = some (.vacuumsOn, .idle, [.tx frameVA]) := by decide +kernel
/-- V53: the second press breaks B and arms its reset. -/
theorem test_eval_breaks_b :
    got (exec (.eval frameFB) (st true true .idle .readyForBreak)) (fun t => (t.chB, t.pending, t.trace)) =
      some (.breaking, [⟨.b, 1000⟩], [.tx frameBB]) := by decide +kernel
/-- V31. -/
theorem test_send_zero : got (exec (.send Config.zero9) (st true false .idle .idle)) (·.trace) = some [.tx framePF] := by decide +kernel
/-- Program P1, O[2]: a wrong CRC goes out untouched (log 6 for the row). -/
theorem test_txframe_wrong_crc :
    got (exec (.txframe Config.zero9 0x00 0x00) (st true false .idle .idle)) (·.trace) =
      some [.tx ⟨[0x22, 0x10, 0x03, 0x85, 0, 0, 0, 0, 0, 0, 0, 0, 0, 0x00, 0x00, 0x33], rfl⟩] := by decide
theorem test_txframe_encode_row :
    got (exec (.txframeEncode 0x01 0x80 Config.zero9 0x98 0x1B) (st true false .idle .idle)) (·.trace) =
      some [.tx ⟨[0x22, 0x10, 0x01, 0x80, 0, 0, 0, 0, 0, 0, 0, 0, 0, 0x98, 0x1B, 0x33], rfl⟩] := by decide
theorem test_txframe_poll_row : got (exec .txframePoll (st true false .idle .idle)) (·.trace) = some [.tx framePF] := by decide +kernel
/-- V45: any 16 bytes at a 0x44 are a frame. -/
theorem test_rxframe_row :
    got (exec (.rxframe frameF1) (st true true .idle .idle)) (fun t => (t.chA, t.chB, sinks t.trace)) =
      some (.idle, .idle, [frameF1]) := by decide +kernel
/-- V51, first frame. -/
theorem test_rxframe_trigb_row :
    got (exec (.rxframeTrigb frameFB) (st true true .idle .idle)) (fun t => (t.chA, t.chB, txs t.trace)) =
      some (.idle, .vacuumsOn, [frameVB]) := by decide +kernel
/-- V50, fourth frame. -/
theorem test_rxframe_triga_row :
    got (exec .rxframeTriga (st true true .readyForBreak .idle)) (fun t => (t.chA, t.pending, txs t.trace)) =
      some (.breaking, [⟨.a, 1000⟩], [frameBA]) := by decide +kernel
/-- R87, R88: hexadecimal digits are for bytes (either case, log 24), the count of WAIT is decimal. -/
theorem test_parse_digits :
    parseScript "WAIT 1A" = none ∧ parseScript "RX 4g" = none ∧ parseScript "RX 4" = none ∧
      parseScript "RX aF\nWAIT 120" = some [.event (.rx [0xAF]), .wait 120] := by decide +kernel
/-- R87's example lines. -/
theorem test_parse_script :
    parseScript "CONNECT\nRX 44 EE ; a chunk\nWAIT 2" = some [.event .connect, .event (.rx [0x44, 0xEE]), .wait 2] := by decide +kernel

/-! Witnesses: states and operands that meet the hypotheses of each statement, clause by clause -/

def openS : State := st true false .idle .idle
def closedS : State := st false true .idle .idle
def runS : State := st true true .idle .idle
def inA (c : ChState) : State := st true true c .idle
def inB (c : ChState) : State := st true true .idle c

theorem witness_open_and_closed : openS.isOpen = true ∧ closedS.isOpen = false := by decide
theorem witness_FailedWriteIsReportedAfterIt : openS.isOpen = true := by decide
theorem witness_CrcIsLinear : ([0x12, 0x34] : List Byte).length = ([0xFF, 0xFF] : List Byte).length := by decide
theorem witness_CrcBijectiveOnTwoBytes : crc16 [0x12, 0x34] = crc16 [0x12, 0x34] := rfl
theorem witness_EncodeRefusesOtherLengths :
    ([0, 0, 0, 0, 0, 0, 0, 0] : List Byte).length ≠ 9 ∧ ([0, 0, 0, 0, 0, 0, 0, 0, 0, 0] : List Byte).length ≠ 9 := by decide
theorem witness_EncodeResultProperties_injective : encodeFrame 3 0x85 count9 = encodeFrame 3 0x85 count9 := rfl
theorem witness_TxframeRowsWriteTheirFrame_rightCrc :
    (0x52 : Byte) ++ (0xD9 : Byte) = crc16 ([0x10, 0x03, 0x85] ++ Config.zero9.1) := by decide +kernel
theorem witness_DecodePassFollowsItsSteps :
    (0x44 : Byte) ∉ ([0xFF, 0x00, 0x22, 0x33] : List Byte) ∧ (frameFB.1.take 14).length < 15 ∧
      frameF1.1.head? = some 0x44 := by decide
theorem witness_RxDecodesDeliversEvaluates :
    openS.cfg.evalGated = true ∧ openS.isOpen = true ∧ closedS.cfg.evalGated = true ∧ closedS.isOpen = false := by decide
theorem witness_RxWhileStoppedOnlyDelivers :
    openS.isOpen = true ∧ openS.running = false ∧ openS.cfg.evalGated = true := by decide
theorem witness_WholeFrameArrival :
    (inA .idle).isOpen = true ∧ (inA .idle).rxbuf = [] ∧ frameFA.1.head? = some 0x44 ∧ frameFA = (inA .idle).cfg.refA ∧
      (∃ t : State, t = { inA .idle with trace := (inA .idle).trace ++ [Output.sink frameFA (status frameFA)] }) ∧
      closedS.isOpen = false := ⟨rfl, rfl, rfl, by decide, ⟨_, rfl⟩, rfl⟩
/-- The split in the middle of a frame (V47, k = 10), with a strobe and a poll between the chunks. -/
theorem witness_ChunkBoundariesCarryNoMeaning :
    (∀ i ∈ [Instr.tb, .sendcmd Config.zero9], i ∈ [Instr.start, .stop, .rxfail, .tb, .tick, .fire] ∨
      (∃ p, i = .sendcmd p) ∨ (∃ f, i = .sendraw f)) ∧
    (got (execAll ([Instr.rx (frameF1.1.take 8)] ++ [.tb, .sendcmd Config.zero9] ++ [.rx (frameF1.1.drop 8)]) openS)
      (fun t => (t.rxbuf, sinks t.trace)) = some ([], [frameF1])) ∧
    got (exec (.rx (frameF1.1.take 8 ++ frameF1.1.drop 8)) openS) (fun t => (t.rxbuf, sinks t.trace)) =
      some ([], [frameF1]) := by
  refine ⟨?_, by decide +kernel, by decide +kernel⟩
  intro i hi
  simp only [List.mem_cons, List.not_mem_nil, or_false] at hi
  rcases hi with rfl | rfl
  · exact .inl (by decide)
  · exact .inr (.inl ⟨_, rfl⟩)
theorem witness_StepFollowsTransitionTable :
    (inA .idle).ch .a = .idle ∧ (inA .vacuumsOn).ch .a = .vacuumsOn ∧ (inB .readyForBreak).ch .b = .readyForBreak ∧
      (inB .breaking).ch .b = .breaking := by decide
theorem witness_EvalMovesChannelA :
    (inA .idle).chB = .idle ∧ (inA .idle).chA = .idle ∧ (inA .vacuumsOn).chB = .idle ∧
      (inA .vacuumsOn).chA = .vacuumsOn ∧ (inA .readyForBreak).chB = .idle ∧
      (inA .readyForBreak).chA = .readyForBreak ∧ (inA .breaking).chB = .idle ∧ (inA .breaking).chA = .breaking ∧
      frameFA = (inA .idle).cfg.refA ∧ frameFN ≠ (inA .idle).cfg.refA := by decide
theorem witness_EvalMovesChannelB :
    (inB .idle).chA = .idle ∧ (inB .idle).chB = .idle ∧ (inB .vacuumsOn).chB = .vacuumsOn ∧
      (inB .readyForBreak).chB = .readyForBreak ∧ (inB .breaking).chB = .breaking ∧
      frameFB ≠ (inB .idle).cfg.refA ∧ frameFB.1[10]? = some 0x04 ∧ frameFN ≠ (inB .idle).cfg.refA ∧
      frameFN.1[10]? ≠ some 0x04 := by decide
theorem witness_ActiveChannelLocksOutTheOther :
    (inA .vacuumsOn).chA ≠ .idle ∧ (inB .vacuumsOn).chB ≠ .idle ∧
      (got (exec (.rx frameFB.1) (inA .vacuumsOn)) (fun t => (t.chA, t.chB)) = some (.readyForBreak, .idle)) ∧
      (got (exec (.rx frameFA.1) (inB .vacuumsOn)) (fun t => (t.chA, t.chB)) = some (.idle, .readyForBreak)) := by
  decide +kernel
theorem witness_FirePerformsOldestEntry :
    (inA .idle).pending = [] ∧ { inA .breaking with pending := [⟨.a, 1⟩] }.pending = ⟨.a, 1⟩ :: [] ∧
      { inB .breaking with pending := [⟨.b, 1000⟩] }.pending = ⟨.b, 1000⟩ :: [] := by decide
theorem witness_FullCycleEmitsThreeCommands :
    runS.isOpen = true ∧ runS.running = true ∧ runS.rxbuf = [] ∧ runS.pending = [] ∧ runS.chA = .idle ∧ runS.chB = .idle ∧
      frameFA.1.head? = some 0x44 ∧ frameFB.1.head? = some 0x44 ∧ frameFN.1.head? = some 0x44 ∧
      (Chan.a = .a ∧ Chan.b = .b ∧ frameFA = runS.cfg.refA ∧ frameFN ≠ runS.cfg.refA) ∧
      (Chan.b = .b ∧ Chan.a = .a ∧ frameFB ≠ runS.cfg.refA ∧ frameFB.1[10]? = some 0x04 ∧
        frameFN.1[10]? ≠ some 0x04) := by decide
theorem witness_TickSendsByPriority : openS.running = false ∧ runS.running = true := by decide
theorem witness_QuietStrobeOnlyCounts :
    (∀ e ∈ { openS with pending := [⟨.a, 2⟩] }.pending, 1 < e.remaining) ∧
      { openS with pending := [⟨.a, 2⟩] }.running = false ∧
      (∀ e ∈ { runS with pending := [⟨.b, 2⟩], tickCnt := 98 }.pending, 1 < e.remaining) ∧
      { runS with pending := [⟨.b, 2⟩], tickCnt := 98 }.running = true ∧
      { runS with pending := [⟨.b, 2⟩], tickCnt := 98 }.tickCnt < 99 := by decide
theorem witness_PendingOk : PendingOk [⟨.a, 1⟩, ⟨.b, 1⟩, ⟨.a, 1000⟩] := ⟨by decide, by decide⟩
theorem witness_BreakingEndsWithin1000Strobes :
    StateInv { inA .breaking with pending := [⟨.a, 1000⟩] } ∧ { inA .breaking with pending := [⟨.a, 1000⟩] }.ch .a = .breaking := by
  refine ⟨⟨.inr rfl, .inl rfl, ⟨by decide, by decide⟩, ⟨by decide, by decide⟩, ?_⟩, rfl⟩
  intro x hx
  cases x
  · exact ⟨⟨.a, 1000⟩, by decide, rfl⟩
  · exact absurd hx (by decide)
theorem witness_nothing_pending : runS.pending = [] := by decide
theorem witness_StepKeepsInvariant :
    StateInv openS ∧ got (step { openS with script := [0x03] }) (·.running) = some true := by
  refine ⟨⟨.inl rfl, .inl rfl, ⟨by decide, by decide⟩, ⟨by decide, by decide⟩, ?_⟩, by decide⟩
  intro x hx
  cases x <;> exact absurd hx (by decide)
theorem witness_MutualExclusionIsPreserved :
    ((inA .vacuumsOn).chA = .idle ∨ (inA .vacuumsOn).chB = .idle) ∧
      got (exec (.eval frameFN) (inA .vacuumsOn)) (·.chA) = some .readyForBreak := by decide +kernel
theorem witness_DecodeOfEncodeIsIdentity :
    (Instr.rx (List.replicate 255 0x44)).wellFormed = true ∧ (Instr.encode 3 0x85 count9.1).wellFormed = true ∧
      (Instr.txframe count9 0 0).wellFormed = true ∧ (Instr.rxframe frameF1).wellFormed = true := by decide +kernel
theorem witness_EncodeOfDecodeIsIdentity : decode .evt [0x07, 0x01, 0x44, 0x0B] = .ok (.rx [0x44]) [0x0B] := by decide
theorem witness_ReservedCodesAreRefused :
    ((0x00 : Byte).toNat = 0 ∨ 12 ≤ (0x00 : Byte).toNat) ∧ ((0x0C : Byte).toNat = 0 ∨ 12 ≤ (0x0C : Byte).toNat) ∧
      5 ≤ (0x05 : Byte).toNat ∧
      ({ openS with script := [0x0C] }.inFmt = .evt ∧ { openS with script := [0x0C] }.script = 0x0C :: []) ∧
      ({ openS with script := [0x05], inFmt := .fn }.inFmt = .fn ∧
        { openS with script := [0x05], inFmt := .fn }.script = 0x05 :: []) := by decide
theorem witness_StepRunsTheDecodedInstruction :
    decode { openS with script := [0x0A, 0x04] }.inFmt { openS with script := [0x0A, 0x04] }.script = .ok .tick [0x04] ∧
      (openS.inFmt = .evt ∧ openS.script = []) ∧
      (decode { openS with script := [0x05] }.inFmt { openS with script := [0x05] }.script = .bad .truncated ∧
        { openS with script := [0x05] }.script ≠ []) := by decide
theorem witness_ScriptRunIsFoldOfEvents :
    openS.inFmt = .evt ∧ (∀ i ∈ [Instr.start, .rx [0x44], .tb], i.fmt = .evt ∧ i.wellFormed = true) := by decide
theorem witness_an_instruction_answers_next : got (exec .tick runS) (fun t => t.trace.length) = some 1 := by decide +kernel
theorem witness_NothingIsWrittenWhileClosed :
    closedS.isOpen = false ∧ got (exec .tick closedS) (fun t => t.trace) = some [] := by decide
theorem witness_WritesAreCommandFrames :
    (∀ f, Instr.tick ≠ .sendraw f) ∧ (∀ p hi lo, Instr.tick ≠ .txframe p hi lo) ∧
      (∀ a c p hi lo, Instr.tick ≠ .txframeEncode a c p hi lo) ∧
      got (exec .tick runS) (fun t => txs t.trace) = some [framePF] := by
  refine ⟨by simp, by simp, by simp, by decide +kernel⟩
theorem witness_PendingLeavesOnlyByFiring :
    Instr.stop ≠ .tb ∧ Instr.stop ≠ .fire ∧ Instr.stop ∈ [Instr.start, .stop, .connect, .disconnect, .tick, .rxfail] ∧
      got (exec .stop { inA .breaking with pending := [⟨.a, 400⟩] }) (·.pending) = some [⟨.a, 400⟩] := by decide
theorem witness_flag_and_register_frames :
    (Instr.tick ≠ .connect ∧ Instr.tick ≠ .disconnect ∧ Instr.tick ≠ .start ∧ Instr.tick ≠ .stop) ∧
      (Instr.tick ∉ [Instr.start, .stop, .tb] ∧ Instr.tick ∉ [Instr.connect, .disconnect, .decode, .rxframeTriga]) ∧
      (∀ c, Instr.tick ≠ .rx c) ∧ (∀ f, Instr.tick ≠ .rxframe f) ∧ (∀ f, Instr.tick ≠ .rxframeTrigb f) := by
  refine ⟨by decide, by decide, by simp, by simp, by simp⟩
theorem witness_WriteOutcomeFeedsNothingBack :
    got (exec (.send Config.zero9) { openS with writeMarks := [true] }) (fun t => t.trace) =
      some [.tx framePF, .report .ioWr] ∧
    refusal (exec (.encode 3 0x85 []) openS) = some (.contractViolation 0) := by decide +kernel

end Sys2Proof.Tests
end

section
/-! SUPPORT. What an instruction can do to the state, said once (`Effect`), and the induction rules of the two
operations that repeat another one. -/

namespace Sys2Proof.Machine

/-- What an instruction that answers a next state does, in the shared operations: the proofs about all instructions go by
these cases. The session verbs keep their names, because the flags are theirs alone (R230). -/
inductive Effect (s : State) : Instr → State → Prop where
  | connect : Effect s .connect { s with isOpen := true, rxbuf := [] }
  | disconnect : Effect s .disconnect { s with isOpen := false, rxbuf := [] }
  | start : Effect s .start { s with chA := .idle, chB := .idle, running := true, tickCnt := 0 }
  | stop : Effect s .stop { s with chA := .idle, chB := .idle, running := false, tickCnt := 0 }
  | write {i : Instr} (f : Frame) : Effect s i (writeRaw f s)
  | receive {i : Instr} (chunk : List Byte) : Effect s i (receive chunk s)
  | report {i : Instr} (code : ErrCode) : Effect s i (s.report code)
  | strobe {i : Instr} : Effect s i (strobe s)
  | tick {i : Instr} : Effect s i (tickOp s)
  | fire {i : Instr} : Effect s i (fireOp s)
  | deliver {i : Instr} (r : FnResult) : Effect s i (s.deliver r)
  | decode {i : Instr} (r : FnResult) : Effect s i (State.deliver { s with rxbuf := (decodeBuf s.rxbuf).2 } r)
  | eval {i : Instr} (f : Frame) : Effect s i (evalOp f s)

/-- `ENCODE` answers a next state only by delivering a frame (R121). -/
theorem execEncode_next {a c : Byte} {payload : List Byte} {s t : State} (h : execEncode a c payload s = .next t) :
    ∃ r, t = s.deliver r := by
  unfold execEncode at h
  split at h
  · exact ⟨_, (Host.Outcome.next.inj h).symm⟩
  · cases h

/-- Every next state an instruction answers is the outcome of one of the effects. -/
theorem exec_effect {i : Instr} {s t : State} (h : exec i s = .next t) : Effect s i t := by
  cases i
  case encode a c payload =>
    obtain ⟨r, rfl⟩ := execEncode_next h
    exact .deliver r
  all_goals obtain rfl := Host.Outcome.next.inj h
  case connect => exact .connect
  case disconnect => exact .disconnect
  case start => exact .start
  case stop => exact .stop
  case sendcmd | sendraw | send | txframe | txframeEncode | txframePoll => exact .write _
  case rx | rxframe | rxframeTrigb | rxframeTriga => exact .receive _
  case rxfail => exact .report _
  case tb => exact .strobe
  case tick => exact .tick
  case fire => exact .fire
  case crc16 => exact .deliver _
  case decode => exact .decode _
  case eval => exact .eval _

/-- A step waits, or runs an instruction on the state whose script has lost that instruction's word. -/
theorem step_next {s t : State} (h : step s = .next t) :
    t = s ∨ ∃ i rest, Effect (s.taken rest) i t := by
  unfold step at h
  split at h
  · exact .inr ⟨_, _, exec_effect h⟩
  · split at h
    · exact .inl (Host.Outcome.next.inj h).symm
    · cases h

/-- A guarded `STEP` is the `STEP` while the other channel is `Idle`, and nothing otherwise (R144). -/
theorem guardedStep_cases (x other : Chan) (t : Bool) (s : State) :
    guardedStep x other t s = s ∨ (s.ch other = .idle ∧ guardedStep x other t s = stepChannel x t s) := by
  unfold guardedStep
  split <;> simp_all

/-- The scheduler's strobe does nothing while stopped; while running it ticks at the count of 99 and counts below it. -/
theorem schedulerStrobe_cases (s : State) :
    (s.running = false ∧ schedulerStrobe s = s) ∨
    (s.running = true ∧ s.tickCnt = 99 ∧ schedulerStrobe s = tickOp { s with tickCnt := 0 }) ∨
    (s.running = true ∧ s.tickCnt ≠ 99 ∧ schedulerStrobe s = { s with tickCnt := s.tickCnt + 1 }) := by
  have hdiv : s.tickCnt + 1 = Config.tickDiv ↔ s.tickCnt = 99 := by
    simp [Config.tickDiv, Config.tickMs, Config.tbMs]
  by_cases hrun : s.running = true
  · by_cases hc : s.tickCnt = 99
    · exact .inr (.inl ⟨hrun, hc, by rw [schedulerStrobe, if_pos hrun, if_pos (hdiv.mpr hc)]⟩)
    · exact .inr (.inr ⟨hrun, hc, by rw [schedulerStrobe, if_pos hrun, if_neg (hdiv.not.mpr hc)]⟩)
  · exact .inl ⟨Bool.eq_false_of_not_eq_true hrun, by rw [schedulerStrobe, if_neg hrun]⟩

@[simp] theorem schedulerStrobe_ch (s : State) (x : Chan) : (schedulerStrobe s).ch x = s.ch x := by cases x <;> simp

/-- What every firing keeps, the due firings of a strobe keep. -/
theorem fireDue_induction {P : State → Prop} (hfire : ∀ s, P s → P (fireOp s)) (n : Nat) {s : State} (h : P s) :
    P (fireDue n s) := by
  induction n generalizing s with
  | zero => exact h
  | succ n ih =>
    unfold fireDue
    split
    · exact h
    · split
      · exact ih (hfire s h)
      · exact h

/-- The due firings of a strobe take the leading entries with no strobe left off `pending`. -/
theorem fireDue_pending (n : Nat) (s : State) (hn : s.pending.length ≤ n) :
    (fireDue n s).pending = s.pending.dropWhile (fun e => e.remaining = 0) := by
  induction n generalizing s with
  | zero => simp [List.length_eq_zero_iff.mp (Nat.le_zero.mp hn), fireDue]
  | succ n ih =>
    unfold fireDue
    split
    next hp => simp [hp]
    next e rest hp =>
      split
      next hdue => rw [ih _ (by simp [hp] at hn ⊢; omega)]; simp [hp, hdue]
      next hdue => simp [hp, hdue]

/-- What the handling of one decoded frame keeps, `RX` keeps, once the buffer holds what the pass left. -/
theorem receive_induction {P : State → Prop} (hframe : ∀ s f, P s → P (consumeFrame s f)) (chunk : List Byte)
    {s : State} (hclosed : P s) (hopen : P { s with rxbuf := (decodeBuf (s.rxbuf ++ chunk)).2 }) :
    P (receive chunk s) := by
  unfold receive
  split
  · exact List.foldlRecOn _ _ hopen fun u hu f _ => hframe u f hu
  · exact hclosed

end Sys2Proof.Machine
end

section
/-! The invariant of R26, R27 and R38, clause by clause, and that every step keeps it. -/

namespace Sys2Proof.Machine

/-! Mutual exclusion (R26) -/

/-- With either channel `Idle` at most the other one is not. -/
theorem mutuallyExclusive_of_ch_idle {x : Chan} {s : State} (hidle : s.ch x = .idle) : MutuallyExclusive s := by
  cases x
  · exact .inl hidle
  · exact .inr hidle

/-- `STEP` behind its guard leaves the other channel `Idle`. -/
theorem guardedStep_keeps_exclusive {x other : Chan} (hne : other ≠ x) (t : Bool) {s : State}
    (h : MutuallyExclusive s) : MutuallyExclusive (guardedStep x other t s) := by
  rcases guardedStep_cases x other t s with e | ⟨hidle, e⟩ <;> rw [e]
  · exact h
  · exact mutuallyExclusive_of_ch_idle ((stepChannel_ch_other t s hne).trans hidle)

theorem fireOp_keeps_exclusive (s : State) (h : MutuallyExclusive s) : MutuallyExclusive (fireOp s) := by
  rcases fireOp_cases s with ⟨-, e⟩ | ⟨head, rest, -, e⟩ <;> rw [e]
  · exact h
  · exact mutuallyExclusive_of_ch_idle (State.ch_setCh_same _ head.ch .idle)

/-! The deferred actions' counts (R38 c) -/

theorem PendingOk.nil : PendingOk [] := ⟨by simp, .nil⟩

theorem PendingOk.tail {p : List Pending} (h : PendingOk p) : PendingOk p.tail :=
  have ⟨hbound, hsorted⟩ := h
  ⟨fun e he => hbound e (List.mem_of_mem_tail he), hsorted.sublist (List.tail_sublist p)⟩

/-- A newly armed entry counts the most strobes an entry can, so it goes to the tail (R150). -/
theorem PendingOk.append_armed {p : List Pending} (h : PendingOk p) (x : Chan) : PendingOk (p ++ [⟨x, 1000⟩]) := by
  obtain ⟨hbound, hsorted⟩ := h
  constructor
  · intro e he
    rcases List.mem_append.mp he with he | he
    · exact hbound e he
    · simp [List.mem_singleton.mp he]
  · simp only [List.pairwise_append, List.mem_singleton, forall_eq]
    exact ⟨hsorted, List.pairwise_singleton _ _, fun e he => (hbound e he).2⟩

/-- In a sorted list the entries behind the leading ones with no strobe left have a strobe left. -/
theorem pendingOk_dropWhile_due {p : List Pending} (hbound : ∀ e ∈ p, e.remaining ≤ 1000)
    (hsorted : p.Pairwise fun e f => e.remaining ≤ f.remaining) :
    PendingOk (p.dropWhile fun e => e.remaining = 0) := by
  induction p with
  | nil => exact .nil
  | cons e rest ih =>
    obtain ⟨hhead, hrest⟩ := List.pairwise_cons.mp hsorted
    by_cases hdue : e.remaining = 0
    · simpa [hdue] using ih (fun f hf => hbound f (List.mem_cons_of_mem e hf)) hrest
    · simp only [List.dropWhile_cons, hdue, decide_false, Bool.false_eq_true, if_false]
      refine ⟨fun f hf => ⟨?_, hbound f hf⟩, hsorted⟩
      rcases List.mem_cons.mp hf with rfl | hf
      · omega
      · have := hhead f hf
        omega

/-- One strobe counts every entry down and fires the due ones: what is left again counts 1 to 1000 and is sorted. -/
theorem strobe_keeps_PendingOk {s : State} (h : PendingOk s.pending) : PendingOk (strobe s).pending := by
  obtain ⟨hbound, hsorted⟩ := h
  simp only [strobe, schedulerStrobe_pending]
  rw [fireDue_pending _ _ (by simp)]
  apply pendingOk_dropWhile_due
  · intro e he
    obtain ⟨f, hf, rfl⟩ := List.mem_map.mp he
    exact (Nat.sub_le _ _).trans (hbound f hf).2
  · exact List.pairwise_map.mpr (hsorted.imp fun hle => Nat.sub_le_sub_right hle 1)

theorem stepChannel_keeps_PendingOk (x : Chan) (t : Bool) {s : State} (h : PendingOk s.pending) :
    PendingOk (stepChannel x t s).pending := by
  rcases stepChannel_cases x t s with e | ⟨-, -, e⟩ | ⟨-, -, e⟩ | ⟨-, -, e⟩
  · rwa [e]
  · simpa [e] using h
  · simpa [e] using h
  · simpa [e] using h.append_armed x

/-! A channel in `Breaking` has its entry (R38 e) -/

/-- Moving a channel to a state other than `Breaking` and keeping the entries keeps the clause. -/
theorem setCh_keeps_BreakingArmed {x : Chan} {v : ChState} (hv : v ≠ .breaking) {s : State} (h : BreakingArmed s) :
    BreakingArmed (s.setCh x v) := by
  intro y hy
  by_cases hyx : y = x
  · subst hyx
    exact absurd (by simpa using hy) hv
  · rw [State.ch_setCh_other s v hyx] at hy
    simpa using h y hy

theorem sendOp_keeps_BreakingArmed (p : Payload) {s : State} (h : BreakingArmed s) : BreakingArmed (sendOp p s) := by
  simpa [BreakingArmed] using h

/-- The move into `Breaking` comes with the entry that ends it (R148, R150). -/
theorem stepChannel_keeps_BreakingArmed (x : Chan) (t : Bool) {s : State} (h : BreakingArmed s) :
    BreakingArmed (stepChannel x t s) := by
  rcases stepChannel_cases x t s with e | ⟨-, -, e⟩ | ⟨-, -, e⟩ | ⟨-, -, e⟩ <;> rw [e]
  · exact h
  · exact sendOp_keeps_BreakingArmed _ (setCh_keeps_BreakingArmed (by simp) h)
  · exact setCh_keeps_BreakingArmed (by simp) h
  · intro y hy
    by_cases hyx : y = x
    · exact ⟨⟨x, 1000⟩, by simp, hyx.symm⟩
    · have hbreaking : s.ch y = .breaking := by simpa [State.ch_setCh_other s _ hyx] using hy
      obtain ⟨e, he, hch⟩ := h y hbreaking
      exact ⟨e, by simp [he], hch⟩

/-- A firing takes one entry away and that entry's channel out of `Breaking` with it (R151). -/
theorem fireOp_keeps_BreakingArmed (s : State) (h : BreakingArmed s) : BreakingArmed (fireOp s) := by
  rcases fireOp_cases s with ⟨-, e⟩ | ⟨head, rest, hp, e⟩ <;> rw [e]
  · exact h
  · intro y hy
    have hother : y ≠ head.ch := by
      rintro rfl
      simp at hy
    rw [State.ch_setCh_other _ _ hother, sendOp_ch] at hy
    obtain ⟨f, hf, hch⟩ := h y hy
    rw [hp, List.mem_cons] at hf
    rcases hf with rfl | hf
    · exact absurd hch.symm hother
    · exact ⟨f, by simpa using hf, hch⟩

theorem countDown_keeps_BreakingArmed {s : State} (h : BreakingArmed s) : BreakingArmed (countDown s) := by
  intro x hx
  obtain ⟨e, he, hch⟩ := h x hx
  exact ⟨_, List.mem_map_of_mem he, hch⟩

/-! The tick counter (R38 b) -/

theorem schedulerStrobe_keeps_TickCntOk {s : State} (h : TickCntOk s) : TickCntOk (schedulerStrobe s) := by
  obtain ⟨hbound, hstopped⟩ := h
  rcases schedulerStrobe_cases s with ⟨-, e⟩ | ⟨hrun, -, e⟩ | ⟨hrun, hc, e⟩ <;> rw [e]
  · exact ⟨hbound, hstopped⟩
  · simp [TickCntOk]
  · exact ⟨by simp only; omega, by simp [hrun]⟩

/-! The whole invariant -/

/-- The invariant reads six registers: a state that agrees on them meets it too. -/
theorem StateInv.congr {s t : State} (h : StateInv s) (hrun : t.running = s.running := by simp)
    (hA : t.chA = s.chA := by simp) (hB : t.chB = s.chB := by simp) (hbuf : t.rxbuf = s.rxbuf := by simp)
    (hcnt : t.tickCnt = s.tickCnt := by simp) (hpend : t.pending = s.pending := by simp) : StateInv t where
  exclusive := by simpa [MutuallyExclusive, hA, hB] using h.exclusive
  rxbuf := by simpa [hbuf] using h.rxbuf
  tickCnt := by simpa [TickCntOk, hcnt, hrun] using h.tickCnt
  pending := by simpa [hpend] using h.pending
  armed := by
    intro x hx
    have hch : t.ch x = s.ch x := by cases x <;> simpa
    simpa [hpend] using h.armed x (hch ▸ hx)

/-- A new buffer in the form of R27 keeps the invariant. -/
theorem StateInv.with_rxbuf {s : State} (h : StateInv s) (isOpen : Bool) {buf : List Byte} (hbuf : RxbufOk buf) :
    StateInv { s with isOpen := isOpen, rxbuf := buf } :=
  ⟨h.exclusive, hbuf, h.tickCnt, h.pending, h.armed⟩

/-- Both channels `Idle` and a cleared tick counter keep the invariant, automation running or not (R193, R194). -/
theorem StateInv.with_automation_cleared {s : State} (h : StateInv s) (running : Bool) :
    StateInv { s with chA := .idle, chB := .idle, running := running, tickCnt := 0 } where
  exclusive := .inl rfl
  rxbuf := h.rxbuf
  tickCnt := ⟨Nat.zero_le _, fun _ => rfl⟩
  pending := h.pending
  armed := fun x hx => by cases x <;> cases hx

theorem guardedStep_keeps_StateInv {x other : Chan} (hne : other ≠ x) (t : Bool) {s : State} (h : StateInv s) :
    StateInv (guardedStep x other t s) where
  exclusive := guardedStep_keeps_exclusive hne t h.exclusive
  rxbuf := by simpa using h.rxbuf
  tickCnt := by simpa [TickCntOk] using h.tickCnt
  pending := by
    rcases guardedStep_cases x other t s with e | ⟨-, e⟩ <;> rw [e]
    · exact h.pending
    · exact stepChannel_keeps_PendingOk x t h.pending
  armed := by
    rcases guardedStep_cases x other t s with e | ⟨-, e⟩ <;> rw [e]
    · exact h.armed
    · exact stepChannel_keeps_BreakingArmed x t h.armed

theorem evalOp_keeps_StateInv (f : Frame) {s : State} (h : StateInv s) : StateInv (evalOp f s) :=
  guardedStep_keeps_StateInv (by decide) _ (guardedStep_keeps_StateInv (by decide) _ h)

theorem consumeFrame_keeps_StateInv (s : State) (f : Frame) (h : StateInv s) : StateInv (consumeFrame s f) := by
  have hsink : StateInv (s.emitSink f) := h.congr
  unfold consumeFrame
  split
  · exact evalOp_keeps_StateInv f hsink
  · exact hsink

theorem receive_keeps_StateInv (chunk : List Byte) {s : State} (h : StateInv s) : StateInv (receive chunk s) :=
  receive_induction consumeFrame_keeps_StateInv chunk h (h.with_rxbuf s.isOpen (decodeBuf_keeps_RxbufOk _))

theorem fireOp_keeps_StateInv {s : State} (h : StateInv s) : StateInv (fireOp s) where
  exclusive := fireOp_keeps_exclusive s h.exclusive
  rxbuf := by simpa using h.rxbuf
  tickCnt := by simpa [TickCntOk] using h.tickCnt
  pending := by simpa using h.pending.tail
  armed := fireOp_keeps_BreakingArmed s h.armed

/-- Between the count down and the last due firing the clause of `pending` does not hold, so `TB` is taken clause by
clause. -/
theorem strobe_keeps_StateInv {s : State} (h : StateInv s) : StateInv (strobe s) where
  exclusive := by
    have hfired : MutuallyExclusive (fireDue s.pending.length (countDown s)) :=
      fireDue_induction fireOp_keeps_exclusive _ h.exclusive
    simpa [strobe, MutuallyExclusive] using hfired
  rxbuf := by simpa using h.rxbuf
  tickCnt := schedulerStrobe_keeps_TickCntOk (by simpa [TickCntOk] using h.tickCnt)
  pending := strobe_keeps_PendingOk h.pending
  armed := by
    have hfired : BreakingArmed (fireDue s.pending.length (countDown s)) :=
      fireDue_induction fireOp_keeps_BreakingArmed _ (countDown_keeps_BreakingArmed h.armed)
    simpa [strobe, BreakingArmed] using hfired

/-- Every effect of an instruction keeps the invariant. -/
theorem Effect.keeps_StateInv {i : Instr} {s t : State} (heff : Effect s i t) (h : StateInv s) : StateInv t := by
  cases heff with
  | connect => exact h.with_rxbuf true (.inl rfl)
  | disconnect => exact h.with_rxbuf false (.inl rfl)
  | start => exact h.with_automation_cleared true
  | stop => exact h.with_automation_cleared false
  | write f => exact h.congr
  | receive chunk => exact receive_keeps_StateInv chunk h
  | report code => exact h.congr
  | strobe => exact strobe_keeps_StateInv h
  | tick => exact h.congr
  | fire => exact fireOp_keeps_StateInv h
  | deliver r => exact h.congr
  | decode r =>
    have hbuf : StateInv { s with rxbuf := (decodeBuf s.rxbuf).2 } :=
      h.with_rxbuf s.isOpen (decodeBuf_keeps_RxbufOk _)
    exact hbuf.congr
  | eval f => exact evalOp_keeps_StateInv f h

/-- Settles O45: a step waits or has one of the effects, and each of them keeps every clause. -/
theorem stepKeepsInvariant : Obligations.StepKeepsInvariant := by
  intro s t h hstep
  rcases step_next hstep with rfl | ⟨i, rest, heff⟩
  · exact h
  · have htaken : StateInv (s.taken rest) := h.congr
    exact heff.keeps_StateInv htaken

end Sys2Proof.Machine
end

section
/-! What no instruction, or only a verb, writes: the flags (R230), the parameters and the script (R31, R66). -/

namespace Sys2Proof.Machine

/-- Settles O53: every effect but the verbs' is made of operations that leave both flags as they are. -/
theorem onlyVerbsWriteTheFlags : Obligations.OnlyVerbsWriteTheFlags := by
  intro i s t h
  cases exec_effect h with
  | connect => exact ⟨fun hne => absurd rfl hne, fun _ _ => rfl⟩
  | disconnect => exact ⟨fun _ hne => absurd rfl hne, fun _ _ => rfl⟩
  | start => exact ⟨fun _ _ => rfl, fun hne => absurd rfl hne⟩
  | stop => exact ⟨fun _ _ => rfl, fun _ hne => absurd rfl hne⟩
  | write | receive | report | strobe | tick | fire | deliver | decode | eval => simp

/-- Settles O54: the verbs by their registers, the other effects by the frames of their operations. -/
theorem parametersAndScriptAreNeverWritten : Obligations.ParametersAndScriptAreNeverWritten := by
  intro i s t h
  cases exec_effect h with
  | connect | disconnect | start | stop => exact ⟨rfl, rfl, rfl⟩
  | write | receive | report | strobe | tick | fire | deliver | decode | eval => simp

end Sys2Proof.Machine
end

section
/-! The trace only grows (R32, R62): each operation appends to what the one before it left. -/

namespace Sys2Proof.Machine

theorem writeRaw_trace_prefix (f : Frame) (s : State) : s.trace <+: (writeRaw f s).trace := by
  rcases writeRaw_cases f s with ⟨-, e⟩ | ⟨-, e⟩ <;> simp [e]

theorem sendOp_trace_prefix (p : Payload) (s : State) : s.trace <+: (sendOp p s).trace :=
  writeRaw_trace_prefix (commandFrame p) s

theorem stepChannel_trace_prefix (x : Chan) (t : Bool) (s : State) : s.trace <+: (stepChannel x t s).trace := by
  rcases stepChannel_cases x t s with e | ⟨-, -, e⟩ | ⟨-, -, e⟩ | ⟨-, -, e⟩ <;> rw [e]
  · simpa using sendOp_trace_prefix (vac s.cfg x) (s.setCh x .vacuumsOn)
  · simp
  · simpa using sendOp_trace_prefix (brk s.cfg x) (s.setCh x .breaking)

theorem guardedStep_trace_prefix (x other : Chan) (t : Bool) (s : State) :
    s.trace <+: (guardedStep x other t s).trace := by
  rcases guardedStep_cases x other t s with e | ⟨-, e⟩ <;> rw [e]
  exact stepChannel_trace_prefix x t s

theorem evalOp_trace_prefix (f : Frame) (s : State) : s.trace <+: (evalOp f s).trace :=
  (guardedStep_trace_prefix _ _ _ s).trans (guardedStep_trace_prefix _ _ _ _)

theorem consumeFrame_trace_prefix (s : State) (f : Frame) : s.trace <+: (consumeFrame s f).trace := by
  have hsink : s.trace <+: (s.emitSink f).trace := by simp
  unfold consumeFrame
  split
  · exact hsink.trans (evalOp_trace_prefix f _)
  · exact hsink

theorem receive_trace_prefix (chunk : List Byte) (s : State) : s.trace <+: (receive chunk s).trace :=
  receive_induction (P := fun u => s.trace <+: u.trace) (fun u f h => h.trans (consumeFrame_trace_prefix u f)) chunk
    List.prefix_rfl List.prefix_rfl

theorem fireOp_trace_prefix (s : State) : s.trace <+: (fireOp s).trace := by
  rcases fireOp_cases s with ⟨-, e⟩ | ⟨head, rest, -, e⟩ <;> rw [e]
  simpa using sendOp_trace_prefix Config.zero9 { s with pending := rest }

theorem tickOp_trace_prefix (s : State) : s.trace <+: (tickOp s).trace := by
  rcases tickOp_cases s with ⟨-, e⟩ | ⟨-, e⟩ <;> rw [e]
  exact sendOp_trace_prefix (tickPayload s) s

theorem schedulerStrobe_trace_prefix (s : State) : s.trace <+: (schedulerStrobe s).trace := by
  rcases schedulerStrobe_cases s with ⟨-, e⟩ | ⟨-, -, e⟩ | ⟨-, -, e⟩ <;> rw [e]
  exact tickOp_trace_prefix { s with tickCnt := 0 }

theorem strobe_trace_prefix (s : State) : s.trace <+: (strobe s).trace :=
  have hfired : s.trace <+: (fireDue s.pending.length (countDown s)).trace :=
    fireDue_induction (P := fun u => s.trace <+: u.trace) (fun u h => h.trans (fireOp_trace_prefix u)) _
      List.prefix_rfl
  hfired.trans (schedulerStrobe_trace_prefix _)

/-- Settles O56: the operation of every effect appends to the trace or leaves it. -/
theorem traceOnlyGrows : Obligations.TraceOnlyGrows := by
  intro i s t h
  cases exec_effect h with
  | connect | disconnect | start | stop => exact List.prefix_rfl
  | write f => exact writeRaw_trace_prefix f s
  | receive chunk => exact receive_trace_prefix chunk s
  | report code => simp
  | strobe => exact strobe_trace_prefix s
  | tick => exact tickOp_trace_prefix s
  | fire => exact fireOp_trace_prefix s
  | deliver | decode => exact List.prefix_rfl
  | eval f => exact evalOp_trace_prefix f s

end Sys2Proof.Machine
end

section
/-! Reset (R36). -/

namespace Sys2Proof.Machine

/-- `DISCONNECT` and then `STOP`, run from any state, in one update of the registers. -/
theorem execAll_disconnect_stop (s : State) :
    execAll [.disconnect, .stop] s =
      .next { s with isOpen := false, running := false, chA := .idle, chB := .idle, rxbuf := [], tickCnt := 0 } := rfl

/-- Settles O43: the registers of reset are read off, and the two verbs write all of them but `pending`. -/
theorem resetIsTheQuiescentState : Obligations.ResetIsTheQuiescentState := by
  refine ⟨⟨rfl, rfl, rfl, rfl, rfl, rfl, rfl, rfl, rfl⟩, fun s hpending => ?_⟩
  exact ⟨_, execAll_disconnect_stop s, rfl, rfl, rfl, rfl, rfl, rfl, hpending⟩

end Sys2Proof.Machine
end

section
/-! The frames delivered to the sink (R129, R199): only the handling of a decoded frame adds one, each other operation
leaves them as they are. -/

namespace Sys2Proof.Machine

@[simp] theorem sinks_append (o o' : List Output) : sinks (o ++ o') = sinks o ++ sinks o' := by
  induction o with
  | nil => rfl
  | cons item o ih => cases item <;> simp [sinks, ih]

@[simp] theorem sinks_sink (f : Frame) (p : Payload) : sinks [.sink f p] = [f] := rfl

@[simp] theorem sinks_report (code : ErrCode) : sinks [.report code] = [] := rfl

@[simp] theorem sinks_wireItems (marks : List Bool) (f : Frame) : sinks (wireItems marks f) = [] := by
  unfold wireItems
  split <;> rfl

@[simp] theorem sinks_writeRaw (f : Frame) (s : State) : sinks (writeRaw f s).trace = sinks s.trace := by
  rcases writeRaw_cases f s with ⟨-, e⟩ | ⟨-, e⟩ <;> simp [e]

@[simp] theorem sinks_sendOp (p : Payload) (s : State) : sinks (sendOp p s).trace = sinks s.trace :=
  sinks_writeRaw (commandFrame p) s

@[simp] theorem sinks_stepChannel (x : Chan) (t : Bool) (s : State) :
    sinks (stepChannel x t s).trace = sinks s.trace := by
  rcases stepChannel_cases x t s with e | ⟨-, -, e⟩ | ⟨-, -, e⟩ | ⟨-, -, e⟩ <;> simp [e]

@[simp] theorem sinks_guardedStep (x other : Chan) (t : Bool) (s : State) :
    sinks (guardedStep x other t s).trace = sinks s.trace := by
  rcases guardedStep_cases x other t s with e | ⟨-, e⟩ <;> simp [e]

@[simp] theorem sinks_evalOp (f : Frame) (s : State) : sinks (evalOp f s).trace = sinks s.trace := by
  simp [evalOp]

/-- A decoded frame is delivered once, evaluated or not. -/
@[simp] theorem sinks_consumeFrame (s : State) (f : Frame) : sinks (consumeFrame s f).trace = sinks s.trace ++ [f] := by
  unfold consumeFrame
  split <;> simp

@[simp] theorem sinks_consumeAll (fs : List Frame) (s : State) :
    sinks (fs.foldl consumeFrame s).trace = sinks s.trace ++ fs := by
  induction fs generalizing s with
  | nil => simp
  | cons f fs ih => simp [ih]

@[simp] theorem sinks_fireOp (s : State) : sinks (fireOp s).trace = sinks s.trace := by
  rcases fireOp_cases s with ⟨-, e⟩ | ⟨head, rest, -, e⟩ <;> simp [e]

@[simp] theorem sinks_fireDue (n : Nat) (s : State) : sinks (fireDue n s).trace = sinks s.trace :=
  fireDue_induction (P := fun u => sinks u.trace = sinks s.trace) (fun u h => (sinks_fireOp u).trans h) n rfl

@[simp] theorem sinks_tickOp (s : State) : sinks (tickOp s).trace = sinks s.trace := by
  rcases tickOp_cases s with ⟨-, e⟩ | ⟨-, e⟩ <;> simp [e]

@[simp] theorem sinks_schedulerStrobe (s : State) : sinks (schedulerStrobe s).trace = sinks s.trace := by
  rcases schedulerStrobe_cases s with ⟨-, e⟩ | ⟨-, -, e⟩ | ⟨-, -, e⟩ <;> simp [e]

@[simp] theorem sinks_strobe (s : State) : sinks (strobe s).trace = sinks s.trace := by simp [strobe]

end Sys2Proof.Machine
end

section
/-! The decoder's pass over a joined buffer (R127). -/

namespace Sys2Proof.Machine

/-- The buffer once a turn of the pass has discarded what precedes the first 0x44 (R123). -/
abbrev anchored (buf : List Byte) : List Byte := buf.dropWhile (· != Config.stxIn)

/-- Fewer than 16 bytes from the first 0x44 on end the pass. -/
theorem decodeBuf_of_short {buf : List Byte} (h : (anchored buf).length < 16) : decodeBuf buf = ([], anchored buf) := by
  rw [decodeBuf_unfold, takeBytes_eq_none.mpr h]

/-- Sixteen bytes from the first 0x44 on are cut off as a frame, and the pass goes on behind them. -/
theorem decodeBuf_of_cut {buf rest : List Byte} {f : Frame} (h : anchored buf = f.1 ++ rest) :
    decodeBuf buf = (f :: (decodeBuf rest).1, (decodeBuf rest).2) := by
  rw [decodeBuf_unfold, takeBytes_eq_some.mpr h]

/-- Induction along the turns of a pass. -/
theorem decodeBuf_induction {P : List Byte → Prop} (short : ∀ buf, (anchored buf).length < 16 → P buf)
    (cut : ∀ buf (f : Frame) rest, anchored buf = f.1 ++ rest → P rest → P buf) (buf : List Byte) : P buf := by
  induction hn : buf.length using Nat.strong_induction_on generalizing buf with
  | _ n ih =>
    cases h : takeBytes 16 (anchored buf) with
    | none => exact short buf (takeBytes_eq_none.mp h)
    | some fr =>
      obtain ⟨f, rest⟩ := fr
      have hcut : anchored buf = f.1 ++ rest := takeBytes_eq_some.mp h
      have hlen := congrArg List.length hcut
      have hle : (anchored buf).length ≤ buf.length := (List.dropWhile_sublist _).length_le
      simp only [List.length_append, f.2] at hlen
      exact cut buf f rest hcut (ih rest.length (by omega) rest rfl)

/-- The pass does not see the bytes ahead of the first 0x44. -/
theorem decodeBuf_congr_anchored {b c : List Byte} (h : anchored b = anchored c) : decodeBuf b = decodeBuf c := by
  rw [decodeBuf_unfold b, decodeBuf_unfold c, show b.dropWhile _ = c.dropWhile _ from h]

/-- Discarding ahead of the first 0x44 may be done before bytes are appended. -/
theorem anchored_anchored_append (b c : List Byte) : anchored (anchored b ++ c) = anchored (b ++ c) := by
  simp only [List.dropWhile_append, List.dropWhile_idempotent]

/-- Bytes appended behind a first 0x44 stay behind it. -/
theorem anchored_append_of_cut {b rest : List Byte} {f : Frame} (h : anchored b = f.1 ++ rest) (c : List Byte) :
    anchored (b ++ c) = f.1 ++ (rest ++ c) := by
  have hne : f.1 ≠ [] := List.ne_nil_of_length_pos (by simp [f.2])
  simp [List.dropWhile_append, h, hne]

/-- A pass over a joined buffer is the pass over the first part and then one over what that left, joined with the
second: the frames come in the same order and the same buffer is left. -/
theorem decodeBuf_append (b c : List Byte) :
    decodeBuf (b ++ c) =
      ((decodeBuf b).1 ++ (decodeBuf ((decodeBuf b).2 ++ c)).1, (decodeBuf ((decodeBuf b).2 ++ c)).2) := by
  induction b using decodeBuf_induction with
  | short b hshort =>
    simp only [decodeBuf_of_short hshort, List.nil_append]
    exact decodeBuf_congr_anchored (anchored_anchored_append b c).symm
  | cut b f rest hcut ih =>
    simp only [decodeBuf_of_cut hcut, decodeBuf_of_cut (anchored_append_of_cut hcut c), ih, List.cons_append]

end Sys2Proof.Machine
end

section
/-! `RX` twice is `RX` of the joined chunk (R55): handling a frame neither reads nor writes the receive buffer. -/

namespace Sys2Proof.Machine

/-- The state with another receive buffer. -/
def State.withRxbuf (s : State) (buf : List Byte) : State := { s with rxbuf := buf }

@[simp] theorem State.withRxbuf_isOpen (s : State) (buf : List Byte) : (s.withRxbuf buf).isOpen = s.isOpen := rfl
@[simp] theorem State.withRxbuf_rxbuf (s : State) (buf : List Byte) : (s.withRxbuf buf).rxbuf = buf := rfl
@[simp] theorem State.withRxbuf_cfg (s : State) (buf : List Byte) : (s.withRxbuf buf).cfg = s.cfg := rfl
@[simp] theorem State.withRxbuf_trace (s : State) (buf : List Byte) : (s.withRxbuf buf).trace = s.trace := rfl
@[simp] theorem State.withRxbuf_evalEnabled (s : State) (buf : List Byte) :
    (s.withRxbuf buf).evalEnabled = s.evalEnabled := rfl
@[simp] theorem State.withRxbuf_ch (s : State) (buf : List Byte) (x : Chan) : (s.withRxbuf buf).ch x = s.ch x := by
  cases x <;> rfl
@[simp] theorem State.withRxbuf_withRxbuf (s : State) (buf buf' : List Byte) :
    (s.withRxbuf buf).withRxbuf buf' = s.withRxbuf buf' := rfl

/-! Each operation that handles a frame commutes with the change of buffer. -/

@[simp] theorem State.withRxbuf_setCh (s : State) (buf : List Byte) (x : Chan) (v : ChState) :
    (s.withRxbuf buf).setCh x v = (s.setCh x v).withRxbuf buf := by
  cases x <;> rfl

@[simp] theorem State.withRxbuf_arm (s : State) (buf : List Byte) (x : Chan) :
    (s.withRxbuf buf).arm x = (s.arm x).withRxbuf buf := rfl

@[simp] theorem State.withRxbuf_emitSink (s : State) (buf : List Byte) (f : Frame) :
    (s.withRxbuf buf).emitSink f = (s.emitSink f).withRxbuf buf := rfl

@[simp] theorem sendOp_withRxbuf (p : Payload) (s : State) (buf : List Byte) :
    sendOp p (s.withRxbuf buf) = (sendOp p s).withRxbuf buf := by
  unfold sendOp
  rw [State.withRxbuf_isOpen]
  split <;> rfl

@[simp] theorem stepChannel_withRxbuf (x : Chan) (t : Bool) (s : State) (buf : List Byte) :
    stepChannel x t (s.withRxbuf buf) = (stepChannel x t s).withRxbuf buf := by
  unfold stepChannel
  rw [State.withRxbuf_ch]
  split <;> simp

@[simp] theorem guardedStep_withRxbuf (x other : Chan) (t : Bool) (s : State) (buf : List Byte) :
    guardedStep x other t (s.withRxbuf buf) = (guardedStep x other t s).withRxbuf buf := by
  unfold guardedStep
  rw [State.withRxbuf_ch]
  split <;> simp

@[simp] theorem evalOp_withRxbuf (f : Frame) (s : State) (buf : List Byte) :
    evalOp f (s.withRxbuf buf) = (evalOp f s).withRxbuf buf := by
  simp [evalOp]

@[simp] theorem consumeFrame_withRxbuf (s : State) (buf : List Byte) (f : Frame) :
    consumeFrame (s.withRxbuf buf) f = (consumeFrame s f).withRxbuf buf := by
  unfold consumeFrame
  rw [State.withRxbuf_evalEnabled]
  split <;> simp

@[simp] theorem consumeAll_withRxbuf (fs : List Frame) (s : State) (buf : List Byte) :
    fs.foldl consumeFrame (s.withRxbuf buf) = (fs.foldl consumeFrame s).withRxbuf buf :=
  List.foldl_hom (State.withRxbuf · buf) fun u f => consumeFrame_withRxbuf u buf f

/-- With no session `RX` is ignored (R129). -/
theorem receive_of_closed {s : State} (h : s.isOpen = false) (c : List Byte) : receive c s = s := by
  simp [receive, h]

/-- With a session `RX` handles the frames of the pass and leaves its buffer (R129). -/
theorem receive_of_open {s : State} (h : s.isOpen = true) (c : List Byte) :
    receive c s =
      ((decodeBuf (s.rxbuf ++ c)).1.foldl consumeFrame s).withRxbuf (decodeBuf (s.rxbuf ++ c)).2 := by
  rw [receive, if_pos h]
  exact consumeAll_withRxbuf _ s _

/-- The second pass starts on the buffer the first one left, and its frames are handled after the first one's. -/
theorem receive_receive (c d : List Byte) (s : State) : receive d (receive c s) = receive (c ++ d) s := by
  cases h : s.isOpen with
  | false => simp only [receive_of_closed h]
  | true =>
    have hopen : (receive c s).isOpen = true := by rwa [receive_isOpen]
    rw [receive_of_open hopen, receive_of_open h, receive_of_open h, ← List.append_assoc,
      decodeBuf_append (s.rxbuf ++ c) d]
    simp

end Sys2Proof.Machine
end

section
/-! Chunk boundaries carry no meaning (R55), with other events between the chunks. -/

namespace Sys2Proof.Machine

/-- What `RX` depends on and what the rule R55 speaks of: the session flag, the receive buffer and the frames delivered. -/
def receiverView (s : State) : Bool × List Byte × List Frame := (s.isOpen, s.rxbuf, sinks s.trace)

theorem receiverView_eq_iff {s t : State} :
    receiverView s = receiverView t ↔ s.isOpen = t.isOpen ∧ s.rxbuf = t.rxbuf ∧ sinks s.trace = sinks t.trace := by
  simp [receiverView]

/-- What `RX` makes of the view is a function of the view: the automation has no part in it. -/
theorem receiverView_receive_congr (c : List Byte) {s t : State} (h : receiverView s = receiverView t) :
    receiverView (receive c s) = receiverView (receive c t) := by
  obtain ⟨hopen, hbuf, hsinks⟩ := receiverView_eq_iff.mp h
  cases ht : t.isOpen with
  | false => rwa [receive_of_closed ht, receive_of_closed (hopen.trans ht)]
  | true =>
    rw [receive_of_open ht, receive_of_open (hopen.trans ht)]
    simp [receiverView, hopen, hbuf, hsinks]

/-- The events that R55 allows between the chunks: all but `RX`, `CONNECT` and `DISCONNECT`. -/
def AllowedBetweenChunks (i : Instr) : Prop :=
  i ∈ [Instr.start, .stop, .rxfail, .tb, .tick, .fire] ∨ (∃ p, i = .sendcmd p) ∨ (∃ f, i = .sendraw f)

/-- Each of them leaves the session, the buffer and the deliveries alone. -/
theorem exec_keeps_receiverView {i : Instr} (hi : AllowedBetweenChunks i) {s t : State} (h : exec i s = .next t) :
    receiverView t = receiverView s := by
  simp only [AllowedBetweenChunks, List.mem_cons, List.not_mem_nil, or_false] at hi
  rcases hi with (rfl | rfl | rfl | rfl | rfl | rfl) | ⟨p, rfl⟩ | ⟨f, rfl⟩
  all_goals
    obtain rfl := Host.Outcome.next.inj h
    simp [receiverView]

/-- A run that answers a next state runs its first instruction and then the others. -/
theorem execAll_cons_next {i : Instr} {is : List Instr} {s t : State} :
    execAll (i :: is) s = .next t ↔ ∃ u, exec i s = .next u ∧ execAll is u = .next t := by
  rw [execAll]
  cases exec i s <;> simp

/-- A run over a joined list is the run over the first part and then the one over the second. -/
theorem execAll_append_next {is js : List Instr} {s t : State} :
    execAll (is ++ js) s = .next t ↔ ∃ u, execAll is s = .next u ∧ execAll js u = .next t := by
  induction is generalizing s with
  | nil => simp [execAll]
  | cons i is ih =>
    simp only [List.cons_append, execAll_cons_next, ih]
    exact ⟨fun ⟨v, hi, u, his, hjs⟩ => ⟨u, ⟨v, hi, his⟩, hjs⟩, fun ⟨u, ⟨v, hi, his⟩, hjs⟩ => ⟨v, hi, u, his, hjs⟩⟩

theorem execAll_keeps_receiverView {between : List Instr} (hall : ∀ i ∈ between, AllowedBetweenChunks i) {s t : State}
    (h : execAll between s = .next t) : receiverView t = receiverView s := by
  induction between generalizing s with
  | nil => exact congrArg receiverView (Host.Outcome.next.inj h).symm
  | cons i is ih =>
    obtain ⟨u, hi, his⟩ := execAll_cons_next.mp h
    obtain ⟨hallowed, hrest⟩ := List.forall_mem_cons.mp hall
    exact (ih hrest his).trans (exec_keeps_receiverView hallowed hi)

theorem exec_rx (c : List Byte) (s : State) : exec (.rx c) s = .next (receive c s) := rfl

/-- Settles O28: two chunks in a row are one by `receive_receive`; events between them leave what the second `RX` depends
on as the first left it. -/
theorem chunkBoundariesCarryNoMeaning : Obligations.ChunkBoundariesCarryNoMeaning := by
  refine ⟨fun s c d => ?_, fun s t u c d between hall htwo hone => ?_⟩
  · simp only [execAll, exec_rx, receive_receive]
  · obtain ⟨v, hfirst, hlast⟩ := execAll_append_next.mp htwo
    obtain ⟨_, hrx, hbetween⟩ := execAll_cons_next.mp hfirst
    obtain rfl := Host.Outcome.next.inj hrx
    have hkept : receiverView v = receiverView (receive c s) := execAll_keeps_receiverView hall hbetween
    obtain rfl : receive d v = t := by simpa [execAll, exec_rx] using hlast
    obtain rfl : receive (c ++ d) s = u := Host.Outcome.next.inj hone
    have hview : receiverView (receive d v) = receiverView (receive (c ++ d) s) := by
      rw [receiverView_receive_congr d hkept, receive_receive]
    obtain ⟨-, hbuf, hsinks⟩ := receiverView_eq_iff.mp hview
    exact ⟨hbuf, hsinks⟩

end Sys2Proof.Machine
end

section
/-! The encoder and the decoder agree (R70, R74, R79, R89): operands first, then one format after the other. -/

namespace Sys2Proof.Machine

/-! Operands -/

theorem withOperand_eq_ok {α : Type} {operand : Option (α × List Byte)} {mk : α → Instr} {i : Instr}
    {rest : List Byte} : withOperand operand mk = .ok i rest ↔ ∃ a, operand = some (a, rest) ∧ i = mk a := by
  unfold withOperand
  split <;> simp [eq_comm, and_comm]

/-- The length byte of a sequence that fits it holds the whole length. -/
theorem lengthByte_toNat {l : List Byte} (h : fitsLengthByte l = true) : (BitVec.ofNat 8 l.length).toNat = l.length := by
  have hlen : l.length ≤ 255 := by simpa [fitsLengthByte] using h
  rw [BitVec.toNat_ofNat]
  omega

/-- A counted sequence is read back. -/
theorem takeCounted_counted {l : List Byte} (h : fitsLengthByte l = true) (rest : List Byte) :
    takeCounted (counted l ++ rest) = some (l, rest) := by
  have htake : takeBytes (BitVec.ofNat 8 l.length).toNat (l ++ rest) =
      some (⟨l, (lengthByte_toNat h).symm⟩, rest) := takeBytes_eq_some.mpr rfl
  simp [takeCounted, counted, htake]

/-- What is read as a counted sequence was written as one. -/
theorem eq_of_takeCounted {bs l rest : List Byte} (h : takeCounted bs = some (l, rest)) : bs = counted l ++ rest := by
  cases bs with
  | nil => cases h
  | cons n bs =>
    obtain ⟨⟨p, rest'⟩, htake, heq⟩ := Option.map_eq_some_iff.mp h
    obtain ⟨rfl, rfl⟩ := Prod.mk.inj heq
    obtain rfl := takeBytes_eq_some.mp htake
    simp [counted, p.2]

/-! Outgoing frames -/

/-- An outgoing frame is read into its fields, and only such a frame is (R70). -/
theorem decodeTx16_eq_ok {bytes rest : List Byte} {i : Instr} :
    decodeTx16 bytes = .ok i rest ↔
      ∃ a c p hi lo, i = tx16Row a c p hi lo ∧ bytes = (tx16Bytes a c p hi lo).1 ++ rest := by
  constructor
  · intro h
    unfold decodeTx16 at h
    split at h
    next b0 b1 a c bs =>
      split at h
      next p hi lo e rest' htake =>
        split at h
        next hfixed =>
          obtain ⟨rfl, rfl, rfl⟩ := hfixed
          obtain ⟨rfl, rfl⟩ := Decoded.ok.inj h
          obtain rfl := takeBytes_eq_some.mp htake
          exact ⟨a, c, p, hi, lo, rfl, by simp [tx16Bytes]⟩
        next => cases h
      next => cases h
    next => cases h
  · rintro ⟨a, c, p, hi, lo, rfl, rfl⟩
    simp [decodeTx16, tx16Bytes]

/-- The row a frame's fields belong to is an outgoing row and has the frame as its word. -/
theorem tx16Row_word (a c : Byte) (p : Payload) (hi lo : Byte) :
    (tx16Row a c p hi lo).fmt = .tx16 ∧ encode (tx16Row a c p hi lo) = (tx16Bytes a c p hi lo).1 := by
  unfold tx16Row
  split
  next hheader =>
    obtain ⟨rfl, rfl⟩ : a = Config.addr ∧ c = Config.cmd := by simpa [isFixedHeader] using hheader
    split
    next hpoll =>
      obtain ⟨⟨rfl, rfl⟩, rfl⟩ : (p = Config.zero9 ∧ hi = 0x52) ∧ lo = 0xD9 := by
        simpa [isPollBody, Subtype.ext_iff] using hpoll
      exact ⟨rfl, rfl⟩
    next => exact ⟨rfl, rfl⟩
  next => exact ⟨rfl, rfl⟩

/-! Incoming frames -/

/-- Which RX16 row an incoming frame belongs to (R74, R142; log 9). -/
def rx16Row (f : Frame) : Instr := if hasTrigbByte f then .rxframeTrigb f else .rxframe f

/-- An incoming frame is read as its row, and only a frame behind the marker is (R74). -/
theorem decodeRx16_eq_ok {bytes rest : List Byte} {i : Instr} :
    decodeRx16 bytes = .ok i rest ↔ ∃ f, startsWithMarker f = true ∧ i = rx16Row f ∧ bytes = f.1 ++ rest := by
  constructor
  · intro h
    unfold decodeRx16 at h
    split at h
    next f rest' htake =>
      split at h
      next hmarker =>
        have hrow : Decoded.ok (rx16Row f) rest' = .ok i rest := by rw [← h, rx16Row]; split <;> rfl
        obtain ⟨rfl, rfl⟩ := Decoded.ok.inj hrow
        exact ⟨f, hmarker, rfl, takeBytes_eq_some.mp htake⟩
      next => cases h
    next => cases h
  · rintro ⟨f, hmarker, rfl, rfl⟩
    simp only [decodeRx16, takeBytes_append, hmarker, if_true, rx16Row]
    split <;> rfl

/-- The row of an incoming frame is an incoming row and has the frame as its word. -/
theorem rx16Row_word (f : Frame) : (rx16Row f).fmt = .rx16 ∧ encode (rx16Row f) = f.1 := by
  unfold rx16Row
  split <;> exact ⟨rfl, rfl⟩

/-! Decoding what was encoded -/

/-- Settles O47: one case for each row of the opcode table. An operand is read back by its law, and a frame row that is
well formed is the row its fields belong to. -/
theorem decodeOfEncodeIsIdentity : Obligations.DecodeOfEncodeIsIdentity := by
  intro i rest hwf
  cases i
  case connect | disconnect | start | stop | rxfail | tb | tick | fire | decode | rxframeTriga => rfl
  case sendcmd p => exact congrArg (withOperand · Instr.sendcmd) (takeBytes_append p rest)
  case sendraw f => exact congrArg (withOperand · Instr.sendraw) (takeBytes_append f rest)
  case eval f => exact congrArg (withOperand · Instr.eval) (takeBytes_append f rest)
  case send p => exact congrArg (withOperand · Instr.send) (takeBytes_append p rest)
  case rx chunk => exact congrArg (withOperand · Instr.rx) (takeCounted_counted hwf rest)
  case crc16 bytes => exact congrArg (withOperand · Instr.crc16) (takeCounted_counted hwf rest)
  case encode a c payload =>
    have hlen : payload.length = 9 := by simpa [Instr.wellFormed, Config.payloadLen] using hwf
    exact congrArg (withOperand · fun p : Payload => Instr.encode a c p.1) (takeBytes_append ⟨payload, hlen⟩ rest)
  case txframe p hi lo =>
    have hrow : isPollBody p hi lo = false := by simpa [Instr.wellFormed] using hwf
    exact decodeTx16_eq_ok.mpr ⟨_, _, p, hi, lo, by simp [tx16Row, isFixedHeader, hrow], rfl⟩
  case txframeEncode a c p hi lo =>
    have hrow : isFixedHeader a c = false := by simpa [Instr.wellFormed] using hwf
    exact decodeTx16_eq_ok.mpr ⟨a, c, p, hi, lo, by simp [tx16Row, hrow], rfl⟩
  case txframePoll => exact decodeTx16_eq_ok.mpr ⟨Config.addr, Config.cmd, Config.zero9, 0x52, 0xD9, rfl, rfl⟩
  case rxframe f =>
    obtain ⟨hmarker, hrow⟩ : startsWithMarker f = true ∧ hasTrigbByte f = false := by
      simpa [Instr.wellFormed] using hwf
    exact decodeRx16_eq_ok.mpr ⟨f, hmarker, by simp [rx16Row, hrow], rfl⟩
  case rxframeTrigb f =>
    obtain ⟨hmarker, hrow⟩ : startsWithMarker f = true ∧ hasTrigbByte f = true := by
      simpa [Instr.wellFormed] using hwf
    exact decodeRx16_eq_ok.mpr ⟨f, hmarker, by simp [rx16Row, hrow], rfl⟩

/-- Settles O51: each word is the encoding of a well-formed instruction. -/
theorem specWordsDecodeToTheirInstruction : Obligations.SpecWordsDecodeToTheirInstruction :=
  ⟨decodeOfEncodeIsIdentity .connect [] rfl, decodeOfEncodeIsIdentity .fire [] rfl,
    decodeOfEncodeIsIdentity (.sendcmd ⟨[1, 2, 3, 4, 5, 6, 7, 8, 9], rfl⟩) [] rfl,
    decodeOfEncodeIsIdentity (.rx [0x44, 0xEE, 0xEE]) [] rfl, decodeOfEncodeIsIdentity .txframePoll [] rfl,
    decodeOfEncodeIsIdentity (.rxframeTrigb ⟨[0x44, 0, 0, 0, 0, 0, 0, 0, 0, 0, 0x04, 0, 0, 0, 0, 0], rfl⟩) [] rfl⟩

/-! Encoding what was decoded -/

/-- `bytes` are the word of `i`, an instruction of the format `fmt`, and `rest` behind it. -/
def ReadsWord (fmt : Fmt) (bytes : List Byte) (i : Instr) (rest : List Byte) : Prop :=
  i.fmt = fmt ∧ bytes = encode i ++ rest

/-- An operation without operands is read from its byte alone. -/
theorem ReadsWord.of_bare {fmt : Fmt} {b : Byte} {bs rest : List Byte} {i j : Instr}
    (hj : j.fmt = fmt ∧ encode j = [b]) (h : Decoded.ok j bs = .ok i rest) : ReadsWord fmt (b :: bs) i rest := by
  obtain ⟨rfl, rfl⟩ := Decoded.ok.inj h
  obtain ⟨hfmt, hword⟩ := hj
  exact ⟨hfmt, by simp [hword]⟩

/-- An operation with an operand of `n` bytes is read from the bytes ahead of the operand and from it. -/
theorem ReadsWord.of_bytes {fmt : Fmt} {n : Nat} {header bs rest : List Byte} {i : Instr} {mk : Bytes n → Instr}
    (hmk : ∀ p, (mk p).fmt = fmt ∧ encode (mk p) = header ++ p.1) (h : withOperand (takeBytes n bs) mk = .ok i rest) :
    ReadsWord fmt (header ++ bs) i rest := by
  obtain ⟨p, htake, rfl⟩ := withOperand_eq_ok.mp h
  obtain rfl := takeBytes_eq_some.mp htake
  obtain ⟨hfmt, hword⟩ := hmk p
  exact ⟨hfmt, by simp [hword]⟩

/-- An operation with a counted operand is read from its byte, the length byte and the sequence. -/
theorem ReadsWord.of_counted {fmt : Fmt} {b : Byte} {bs rest : List Byte} {i : Instr} {mk : List Byte → Instr}
    (hmk : ∀ l, (mk l).fmt = fmt ∧ encode (mk l) = b :: counted l) (h : withOperand (takeCounted bs) mk = .ok i rest) :
    ReadsWord fmt (b :: bs) i rest := by
  obtain ⟨l, htake, rfl⟩ := withOperand_eq_ok.mp h
  obtain rfl := eq_of_takeCounted htake
  obtain ⟨hfmt, hword⟩ := hmk l
  exact ⟨hfmt, by simp [hword]⟩

/-- A byte is given by its number. -/
theorem byte_eq_of_toNat {b : Byte} {n : Nat} (h : b.toNat = n) : b = BitVec.ofNat 8 n := by
  rw [← h, BitVec.ofNat_toNat, BitVec.setWidth_eq]

/-- The events, one case for each op (R79, R89). -/
theorem decodeEvt_readsWord {bytes rest : List Byte} {i : Instr} (h : decodeEvt bytes = .ok i rest) :
    ReadsWord .evt bytes i rest := by
  cases bytes with
  | nil => cases h
  | cons b bs =>
    simp only [decodeEvt] at h
    split at h
    case h_12 => split at h <;> cases h
    all_goals obtain rfl := byte_eq_of_toNat ‹b.toNat = _›
    case h_5 => exact .of_bytes (header := [0x05]) (fun _ => ⟨rfl, rfl⟩) h
    case h_6 => exact .of_bytes (header := [0x06]) (fun _ => ⟨rfl, rfl⟩) h
    case h_7 => exact .of_counted (fun _ => ⟨rfl, rfl⟩) h
    all_goals exact .of_bare ⟨rfl, rfl⟩ h

/-- The function rows, one case for each fn (R79; log 4). -/
theorem decodeFn_readsWord {bytes rest : List Byte} {i : Instr} (h : decodeFn bytes = .ok i rest) :
    ReadsWord .fn bytes i rest := by
  cases bytes with
  | nil => cases h
  | cons b bs =>
    simp only [decodeFn] at h
    split at h
    case h_6 => cases h
    all_goals obtain rfl := byte_eq_of_toNat ‹b.toNat = _›
    case h_1 => exact .of_counted (fun _ => ⟨rfl, rfl⟩) h
    case h_2 =>
      split at h
      next a c bs => exact .of_bytes (header := [0x01, a, c]) (fun _ => ⟨rfl, rfl⟩) h
      next => cases h
    case h_3 => exact .of_bare ⟨rfl, rfl⟩ h
    case h_4 => exact .of_bytes (header := [0x03]) (fun _ => ⟨rfl, rfl⟩) h
    case h_5 => exact .of_bytes (header := [0x04]) (fun _ => ⟨rfl, rfl⟩) h

/-- Settles O48, format by format. -/
theorem encodeOfDecodeIsIdentity : Obligations.EncodeOfDecodeIsIdentity := by
  intro fmt bytes rest i h
  cases fmt with
  | evt => exact decodeEvt_readsWord h
  | fn => exact decodeFn_readsWord h
  | tx16 =>
    obtain ⟨a, c, p, hi, lo, rfl, rfl⟩ := decodeTx16_eq_ok.mp h
    obtain ⟨hfmt, hword⟩ := tx16Row_word a c p hi lo
    exact ⟨hfmt, by rw [hword]⟩
  | rx16 =>
    obtain ⟨f, -, rfl, rfl⟩ := decodeRx16_eq_ok.mp h
    obtain ⟨hfmt, hword⟩ := rx16Row_word f
    exact ⟨hfmt, by rw [hword]⟩
  | rx16Ref =>
    obtain ⟨rfl, rfl⟩ := Decoded.ok.inj h
    exact ⟨rfl, rfl⟩

end Sys2Proof.Machine
end

section
/-! Reserved codes (R84, R89): what the decoder objects to, the step refuses. -/

namespace Sys2Proof.Machine

/-- An event byte that is no listed op is objected to. -/
theorem decodeEvt_reserved {b : Byte} (hb : b.toNat = 0 ∨ 12 ≤ b.toNat) (rest : List Byte) :
    decodeEvt (b :: rest) = .bad (if b.toNat < 16 then .reservedOp b else .highNibble b) := by
  simp only [decodeEvt]
  split
  case h_12 => split <;> rfl
  all_goals omega

/-- A function byte that is no listed fn is objected to. -/
theorem decodeFn_reserved {b : Byte} (hb : 5 ≤ b.toNat) (rest : List Byte) :
    decodeFn (b :: rest) = .bad (.reservedFn b) := by
  simp only [decodeFn]
  split
  case h_6 => rfl
  all_goals omega

/-- Bytes the decoder objects to are refused, with its objection. -/
theorem step_of_bad {s : State} {fmt : Fmt} {bytes : List Byte} {why : DecodeError} (h : decode fmt bytes = .bad why)
    (hne : bytes ≠ []) (hfmt : s.inFmt = fmt) (hscript : s.script = bytes) :
    step s = .refused (.illFormedScript why) := by
  simp [step, hfmt, hscript, h, hne]

/-- A word of the opcode table that the decoder objects to is no instruction, and a step on it is refused. -/
theorem tableWord_of_bad {nbits w : Nat} {why : DecodeError} (h : decodeTable nbits w = .bad why) :
    decodeTableWord nbits w = none ∧
      ∀ s : State, ∃ why, step (s.withFetchWord nbits w) = .refused (.illFormedScript why) := by
  have hfetch : tableFetch nbits w = tableBytes nbits w := by simp [tableFetch, h]
  exact ⟨by simp [decodeTableWord, h], fun s => ⟨why, step_of_bad h (by simp [tableBytes]) rfl hfetch⟩⟩

theorem decodeTable_reservedOp : ∀ op ∈ [0x0, 0xC, 0xD, 0xE, 0xF],
    decodeTable 4 op = .bad (.reservedOp (BitVec.ofNat 8 op)) := by decide

theorem decodeTable_reservedFn : ∀ fn ∈ [5, 6, 7],
    decodeTable 3 fn = .bad (.reservedFn (BitVec.ofNat 8 fn)) := by decide

/-- Settles O49: each reserved code is objected to, and `step` refuses what the decoder objects to. -/
theorem reservedCodesAreRefused : Obligations.ReservedCodesAreRefused := by
  refine ⟨fun b rest => ⟨fun hb => ?_, fun hb => ?_⟩, fun op hop => ?_, fun fn hfn => ?_⟩
  · have hbad : decode .evt (b :: rest) = _ := decodeEvt_reserved hb rest
    exact ⟨_, hbad, fun _ => step_of_bad hbad (List.cons_ne_nil b rest)⟩
  · have hbad : decode .fn (b :: rest) = _ := decodeFn_reserved hb rest
    exact ⟨_, hbad, fun _ => step_of_bad hbad (List.cons_ne_nil b rest)⟩
  · exact tableWord_of_bad (decodeTable_reservedOp op hop)
  · exact tableWord_of_bad (decodeTable_reservedFn fn hfn)

end Sys2Proof.Machine
end

section
/-! The frame rows: the fixed poll frame (R90; log 6) and the arrival of an incoming frame (logs 7, 8). -/

namespace Sys2Proof.Machine

/-- The checksum of the poll frame (R90). -/
theorem crc16_pollFrame : crc16 (crcCovered Config.addr Config.cmd Config.zero9) = 0x52D9 := by decide +kernel

/-- Settles O17: the frame by its checksum, the row by what `SEND` does. -/
theorem pollRowSendsFixedFrame : Obligations.PollRowSendsFixedFrame := by
  constructor
  · calc (encodeFrame 0x03 0x85 Config.zero9).1
        = (tx16Bytes Config.addr Config.cmd Config.zero9 (hiByte 0x52D9) (loByte 0x52D9)).1 :=
          congrArg (fun crc => (tx16Bytes Config.addr Config.cmd Config.zero9 (hiByte crc) (loByte crc)).1)
            crc16_pollFrame
      _ = [0x22, 0x10, 0x03, 0x85, 0, 0, 0, 0, 0, 0, 0, 0, 0, 0x52, 0xD9, 0x33] := by decide
  · intro s
    exact congrArg Host.Outcome.next (sendOp_eq_afterSend Config.zero9 s)

/-- Settles O27: the meaning of each of the three rows is `receive` of its bytes, which is that of `RX`. -/
theorem rxframeRowsAreArrivals : Obligations.RxframeRowsAreArrivals :=
  fun f s => ⟨(exec_rx f.1 s).symm, (exec_rx f.1 s).symm, (exec_rx s.cfg.refA.1 s).symm⟩

end Sys2Proof.Machine
end

section
/-! The writes (R72, R199): every operation but the raw write adds command frames only. -/

namespace Sys2Proof.Machine

@[simp] theorem txs_append (o o' : List Output) : txs (o ++ o') = txs o ++ txs o' := by
  induction o with
  | nil => rfl
  | cons item o ih => cases item <;> simp [txs, ih]

@[simp] theorem txs_sink (f : Frame) (p : Payload) : txs [.sink f p] = [] := rfl

@[simp] theorem txs_report (code : ErrCode) : txs [.report code] = [] := rfl

@[simp] theorem txs_wireItems (marks : List Bool) (f : Frame) : txs (wireItems marks f) = [f] := by
  unfold wireItems
  split <;> rfl

/-- Between two states only command frames were written. -/
def WroteCommands (s t : State) : Prop :=
  ∃ ps : List Payload, txs t.trace = txs s.trace ++ ps.map (encodeFrame 0x03 0x85)

theorem WroteCommands.of_txs_eq {s t : State} (h : txs t.trace = txs s.trace) : WroteCommands s t := ⟨[], by simp [h]⟩

theorem WroteCommands.refl (s : State) : WroteCommands s s := .of_txs_eq rfl

theorem WroteCommands.trans {s t u : State} (hst : WroteCommands s t) (htu : WroteCommands t u) : WroteCommands s u := by
  obtain ⟨ps, hps⟩ := hst
  obtain ⟨qs, hqs⟩ := htu
  exact ⟨ps ++ qs, by simp [hqs, hps]⟩

/-- Only the traces count. -/
theorem WroteCommands.congr {s t s' t' : State} (h : WroteCommands s t) (hs : s'.trace = s.trace := by simp)
    (ht : t'.trace = t.trace := by simp) : WroteCommands s' t' := by
  simpa only [WroteCommands, hs, ht] using h

theorem sendOp_wroteCommands (p : Payload) (s : State) : WroteCommands s (sendOp p s) := by
  rw [sendOp_eq_writeRaw]
  rcases writeRaw_cases (commandFrame p) s with ⟨-, e⟩ | ⟨-, e⟩ <;> rw [e]
  · exact ⟨[p], by simp; rfl⟩
  · exact .refl s

theorem stepChannel_wroteCommands (x : Chan) (t : Bool) (s : State) : WroteCommands s (stepChannel x t s) := by
  rcases stepChannel_cases x t s with e | ⟨-, -, e⟩ | ⟨-, -, e⟩ | ⟨-, -, e⟩ <;> rw [e]
  · exact .refl s
  · exact (sendOp_wroteCommands (vac s.cfg x) (s.setCh x .vacuumsOn)).congr
  · exact .of_txs_eq (by simp)
  · exact (sendOp_wroteCommands (brk s.cfg x) (s.setCh x .breaking)).congr

theorem guardedStep_wroteCommands (x other : Chan) (t : Bool) (s : State) :
    WroteCommands s (guardedStep x other t s) := by
  rcases guardedStep_cases x other t s with e | ⟨-, e⟩ <;> rw [e]
  · exact .refl s
  · exact stepChannel_wroteCommands x t s

theorem evalOp_wroteCommands (f : Frame) (s : State) : WroteCommands s (evalOp f s) :=
  (guardedStep_wroteCommands _ _ _ s).trans (guardedStep_wroteCommands _ _ _ _)

theorem consumeFrame_wroteCommands (s : State) (f : Frame) : WroteCommands s (consumeFrame s f) := by
  have hsink : WroteCommands s (s.emitSink f) := .of_txs_eq (by simp)
  unfold consumeFrame
  split
  · exact hsink.trans (evalOp_wroteCommands f _)
  · exact hsink

theorem receive_wroteCommands (chunk : List Byte) (s : State) : WroteCommands s (receive chunk s) :=
  receive_induction (P := WroteCommands s) (fun u f h => h.trans (consumeFrame_wroteCommands u f)) chunk
    (.refl s) (.of_txs_eq rfl)

theorem fireOp_wroteCommands (s : State) : WroteCommands s (fireOp s) := by
  rcases fireOp_cases s with ⟨-, e⟩ | ⟨head, rest, -, e⟩ <;> rw [e]
  · exact .refl s
  · exact (sendOp_wroteCommands Config.zero9 { s with pending := rest }).congr

theorem tickOp_wroteCommands (s : State) : WroteCommands s (tickOp s) := by
  rcases tickOp_cases s with ⟨-, e⟩ | ⟨-, e⟩ <;> rw [e]
  · exact sendOp_wroteCommands (tickPayload s) s
  · exact .refl s

theorem schedulerStrobe_wroteCommands (s : State) : WroteCommands s (schedulerStrobe s) := by
  rcases schedulerStrobe_cases s with ⟨-, e⟩ | ⟨-, -, e⟩ | ⟨-, -, e⟩ <;> rw [e]
  · exact .refl s
  · exact (tickOp_wroteCommands { s with tickCnt := 0 }).congr
  · exact .of_txs_eq rfl

theorem strobe_wroteCommands (s : State) : WroteCommands s (strobe s) :=
  have hfired : WroteCommands s (fireDue s.pending.length (countDown s)) :=
    fireDue_induction (P := WroteCommands s) (fun u h => h.trans (fireOp_wroteCommands u)) _ (.of_txs_eq rfl)
  hfired.trans (schedulerStrobe_wroteCommands _)

/-- Settles O58: each instruction that is not handed a whole outgoing frame writes by `SEND` alone, or not at all. -/
theorem writesAreCommandFrames : Obligations.WritesAreCommandFrames := by
  intro i s t hraw htx htxEncode h
  change WroteCommands s t
  cases i
  case sendraw f => exact absurd rfl (hraw f)
  case txframe p hi lo => exact absurd rfl (htx p hi lo)
  case txframeEncode a c p hi lo => exact absurd rfl (htxEncode a c p hi lo)
  case encode a c payload =>
    obtain ⟨r, rfl⟩ := execEncode_next h
    exact .of_txs_eq rfl
  all_goals obtain rfl := Host.Outcome.next.inj h
  case connect | disconnect | start | stop | crc16 | decode => exact .of_txs_eq rfl
  case sendcmd | send | txframePoll => exact sendOp_wroteCommands _ s
  case rx | rxframe | rxframeTrigb | rxframeTriga => exact receive_wroteCommands _ s
  case rxfail => exact .of_txs_eq (by simp)
  case tb => exact strobe_wroteCommands s
  case tick => exact tickOp_wroteCommands s
  case fire => exact fireOp_wroteCommands s
  case eval f => exact evalOp_wroteCommands f s

end Sys2Proof.Machine
end

section
/-! The checksum (R101 to R108): the table and its derivation, the byte step, and the bit-serial form. -/

namespace Sys2Proof.Machine

/-- R101, R102: the literal table lists the derivation over the byte values in order. -/
theorem crcTable_eq_map_tableEntry : crcTable = (List.range 256).map fun n => tableEntry (BitVec.ofNat 8 n) := by
  decide +kernel

theorem tableAt_eq_tableEntry (i : Byte) : tableAt i = tableEntry i := by
  simp [tableAt, crcTable_eq_map_tableEntry, List.getElem?_range i.isLt]

/-- Settles O5: looking the byte up in the list of the derived entries. -/
theorem crcTableIsDerivedFromPolynomial : Obligations.CrcTableIsDerivedFromPolynomial := tableAt_eq_tableEntry

theorem exec_crc16 (l : List Byte) (s : State) : exec (.crc16 l) s = .next (s.deliver (.crc (crc16 l))) := rfl

/-- Settles O6: `deliver` writes the field `result` alone. -/
theorem crc16RowDeliversItsValue : Obligations.Crc16RowDeliversItsValue := exec_crc16

@[simp] theorem crc16_nil : crc16 [] = 0 := rfl

/-- R104: the bytes are taken in by the byte step, in sequence order. -/
theorem crc16_concat (l : List Byte) (b : Byte) : crc16 (l ++ [b]) = crcStep (crc16 l) b := by
  simp [crc16, crcFrom]

/-- R51: the high byte as R103 writes it, by a shift. -/
theorem hiByte_eq_shift (v : Word) : hiByte v = (v >>> 8).setWidth 8 := rfl

/-- Settles O7: the fold of the byte step, with its table index written as R103 does. -/
theorem crcIsTheTableFold : Obligations.CrcIsTheTableFold := by
  refine ⟨crc16_nil, fun l b => ?_⟩
  rw [crc16_concat, crcStep, hiByte_eq_shift]

/-- `n` shifts of the register with no input: the repetition in the derivation of a table entry (R101). -/
def crcShiftOut (n : Nat) (c : Word) : Word := (List.range n).foldl (fun c _ => crcShift c.msb c) c

@[simp] theorem crcShiftOut_zero (c : Word) : crcShiftOut 0 c = c := rfl

theorem crcShiftOut_succ (n : Nat) (c : Word) :
    crcShiftOut (n + 1) c = crcShift (crcShiftOut n c).msb (crcShiftOut n c) := by
  simp [crcShiftOut, List.range_succ]

theorem crcShift_xor (feedback : Bool) (c d : Word) :
    crcShift feedback (c ^^^ d) = crcShift feedback c ^^^ d <<< 1 := by
  cases feedback
  · exact BitVec.shiftLeft_xor_distrib c d 1
  · simp only [crcShift, if_true, BitVec.shiftLeft_xor_distrib]
    ac_rfl

/-- An input bit equal to the top bit of a difference `w` in the register cancels that bit out of the feedback. -/
theorem crcSerialBit_xor_msb (c w : Word) : crcSerialBit (c ^^^ w) w.msb = crcShift c.msb c ^^^ w <<< 1 := by
  simp [crcSerialBit, crcShift_xor]

/-- A register `e` fed the top bits of its difference to a register `c` that is shifted without input goes the way
of `c`, but for the bits of the difference not fed yet. -/
theorem crcSerial_difference (c e : Word) (n : Nat) :
    ((List.range n).map (c ^^^ e).getMsbD).foldl crcSerialBit e = crcShiftOut n c ^^^ (c ^^^ e) <<< n := by
  induction n with
  | zero => simp
  | succ n ih =>
    have hbit : (c ^^^ e).getMsbD n = ((c ^^^ e) <<< n).msb := by simp [BitVec.msb]
    rw [List.range_succ, List.map_append, List.foldl_append, ih, List.map_singleton, List.foldl_cons, List.foldl_nil,
      hbit, crcSerialBit_xor_msb, crcShiftOut_succ, BitVec.shiftLeft_add]

/-- The table index of R103 as the register the derivation of the entry starts from (R101). -/
def indexWord (crc : Word) (b : Byte) : Word := (hiByte crc ^^^ b).setWidth 16 <<< 8

theorem tableAt_eq_crcShiftOut (crc : Word) (b : Byte) : tableAt (hiByte crc ^^^ b) = crcShiftOut 8 (indexWord crc b) :=
  tableAt_eq_tableEntry _

/-- The high byte of the difference is the input byte. -/
theorem bitsMsbFirst_eq_indexWord_xor (crc : Word) (b : Byte) :
    bitsMsbFirst b = (List.range 8).map (indexWord crc b ^^^ crc).getMsbD := by
  refine List.map_congr_left fun k hk => ?_
  have hk : k < 8 := List.mem_range.mp hk
  have hpos : 16 - (16 - k) = k := by omega
  rw [BitVec.xor_comm]
  simp [indexWord, hiByte, hk, hpos]

/-- The low byte of the difference is the register's. -/
theorem indexWord_xor_shiftLeft (crc : Word) (b : Byte) : (indexWord crc b ^^^ crc) <<< 8 = crc <<< 8 := by
  simp [indexWord, BitVec.shiftLeft_xor_distrib, ← BitVec.shiftLeft_add]

/-- R105, one byte: its eight bits take the register where the byte step does. -/
theorem crcSerial_byte (crc : Word) (b : Byte) : (bitsMsbFirst b).foldl crcSerialBit crc = crcStep crc b := by
  calc (bitsMsbFirst b).foldl crcSerialBit crc
      = crcShiftOut 8 (indexWord crc b) ^^^ (indexWord crc b ^^^ crc) <<< 8 := by
        rw [bitsMsbFirst_eq_indexWord_xor crc, crcSerial_difference]
    _ = tableAt (hiByte crc ^^^ b) ^^^ crc <<< 8 := by rw [tableAt_eq_crcShiftOut, indexWord_xor_shiftLeft]
    _ = crcStep crc b := BitVec.xor_comm _ _

/-- Settles O12: byte by byte the bit-serial form folds the byte step. -/
theorem bitSerialCrcEqualsTableCrc : Obligations.BitSerialCrcEqualsTableCrc := by
  intro l
  calc crc16Serial l
      = l.foldl (fun crc b => (bitsMsbFirst b).foldl crcSerialBit crc) Config.crcInit := List.foldl_flatMap ..
    _ = crc16 l := by simp only [crcSerial_byte, crc16, crcFrom]

end Sys2Proof.Machine
end

section
/-! The frame encoder (R120 to R122): the fields of an outgoing frame, and the checksum that leaves residue 0. -/

namespace Sys2Proof.Machine

/-! The two bytes of a checksum -/

/-- R51: the two bytes of a word, high byte first, make it up. -/
theorem hiByte_append_loByte (v : Word) : hiByte v ++ loByte v = v := by
  unfold hiByte loByte
  rw [BitVec.extractLsb'_append_extractLsb'_eq_extractLsb' (by omega)]
  simp

theorem tableAt_zero : tableAt 0#8 = 0 := rfl

/-- R103: a byte equal to the register's high byte shifts that byte out. -/
theorem crcStep_hiByte (crc : Word) : crcStep crc (hiByte crc) = crc <<< 8 := by
  simp [crcStep, tableAt_zero]

theorem hiByte_shiftLeft (v : Word) : hiByte (v <<< 8) = loByte v := by
  ext i hi
  have hlow : i < 16 := by omega
  have hhigh : 8 + i < 16 := by omega
  simp [hiByte, loByte, hlow, hhigh]

/-- R107: the checksum's own bytes, high byte first, shift the register out to 0. -/
theorem crc16_append_own_bytes (l : List Byte) : crc16 (l ++ [hiByte (crc16 l), loByte (crc16 l)]) = 0 := by
  generalize hcrc : crc16 l = crc
  calc crc16 (l ++ [hiByte crc, loByte crc])
      = crcStep (crcStep crc (hiByte crc)) (loByte crc) := by simp [← hcrc, crc16, crcFrom]
    _ = crcStep (crc <<< 8) (hiByte (crc <<< 8)) := by rw [crcStep_hiByte, hiByte_shiftLeft]
    _ = 0 := by rw [crcStep_hiByte, ← BitVec.shiftLeft_add]; exact BitVec.shiftLeft_eq_zero (by omega)

/-! The fields of an outgoing frame, read at their offsets (R70) -/

theorem tx16Bytes_val (a c : Byte) (p : Payload) (hi lo : Byte) :
    (tx16Bytes a c p hi lo).1 = [0x22, 0x10, a, c] ++ p.1 ++ [hi, lo, 0x33] := rfl

theorem tx16Bytes_etx (a c : Byte) (p : Payload) (hi lo : Byte) : (tx16Bytes a c p hi lo).1[15]? = some 0x33 := by
  simp [tx16Bytes_val, p.2]

theorem tx16Bytes_payload (a c : Byte) (p : Payload) (hi lo : Byte) :
    ((tx16Bytes a c p hi lo).1.drop 4).take 9 = p.1 := by
  simp [tx16Bytes_val, p.2]

theorem tx16Bytes_crc (a c : Byte) (p : Payload) (hi lo : Byte) :
    ((tx16Bytes a c p hi lo).1.drop 13).take 2 = [hi, lo] := by
  simp [tx16Bytes_val, p.2]

/-- Offsets 1 to 14: what the checksum covers, and the two bytes of its place. -/
theorem tx16Bytes_covered (a c : Byte) (p : Payload) (hi lo : Byte) :
    ((tx16Bytes a c p hi lo).1.drop 1).take 14 = crcCovered a c p ++ [hi, lo] := by
  simp [tx16Bytes_val, crcCovered, Config.lenMark, List.take_append, p.2]

/-- Equal outgoing frames have equal ADDR, CMD and payload. -/
theorem tx16Bytes_inj {a c a' c' : Byte} {p p' : Payload} {hi lo hi' lo' : Byte}
    (h : tx16Bytes a c p hi lo = tx16Bytes a' c' p' hi' lo') : a = a' ∧ c = c' ∧ p = p' := by
  have hp : p.1 = p'.1 := by rw [← tx16Bytes_payload a c p hi lo, h, tx16Bytes_payload]
  have hval := congrArg Subtype.val h
  simp only [tx16Bytes_val, List.cons_append, List.cons.injEq] at hval
  obtain ⟨-, -, ha, hc, -⟩ := hval
  exact ⟨ha, hc, Subtype.ext hp⟩

/-- The checksum of an encoded frame, as the statements write what it covers. -/
theorem encodeFrame_crcBytes (a c : Byte) (p : Payload) :
    hiByte (crc16 (crcCovered a c p)) ++ loByte (crc16 (crcCovered a c p)) = crc16 ([0x10, a, c] ++ p.1) :=
  hiByte_append_loByte _

/-- Settles O13: the fields as they are placed, the checksum made up of its two bytes. -/
theorem encodeBuildsTheFrame : Obligations.EncodeBuildsTheFrame :=
  fun a c p => ⟨_, _, tx16Bytes_val a c p _ _, encodeFrame_crcBytes a c p⟩

/-- Settles O16: each field is read off at its offset; the residue is that of a message followed by its own checksum. -/
theorem encodeResultProperties : Obligations.EncodeResultProperties := by
  refine ⟨fun a c p => ⟨(encodeFrame a c p).2, rfl, rfl, tx16Bytes_etx .., tx16Bytes_payload .., ?crc, ?residue⟩, ?inj⟩
  case crc => exact ⟨_, _, tx16Bytes_crc .., encodeFrame_crcBytes a c p⟩
  case residue =>
    rw [encodeFrame, tx16Bytes_covered]
    exact crc16_append_own_bytes _
  case inj => exact fun a c a' c' p p' h => tx16Bytes_inj h

/-- R120: with nine payload bytes the row delivers its frame. -/
theorem exec_encode (a c : Byte) (p : Payload) (s : State) :
    exec (.encode a c p.1) s = .next (s.deliver (.frame (encodeFrame a c p))) :=
  dif_pos p.2

/-- Settles O14: `deliver` writes the field `result` alone. -/
theorem encodeRowDeliversItsFrame : Obligations.EncodeRowDeliversItsFrame := exec_encode

/-- Settles O15: the row's check of the length fails. -/
theorem encodeRefusesOtherLengths : Obligations.EncodeRefusesOtherLengths :=
  fun _ _ _ _ hlen => dif_neg hlen

end Sys2Proof.Machine
end

section
/-! The decoder's pass by its turns (R123 to R127), and the row `DECODE`. -/

namespace Sys2Proof.Machine

/-- Bytes without a 0x44 ahead of a buffer are discarded (R123). -/
theorem anchored_noise_append {noise : List Byte} (h : 0x44 ∉ noise) (rest : List Byte) :
    anchored (noise ++ rest) = anchored rest :=
  List.dropWhile_append_of_pos fun b hb => by
    have hne : b ≠ 0x44 := fun heq => h (heq ▸ hb)
    simpa [Config.stxIn] using hne

/-- A buffer with 0x44 first keeps all its bytes. -/
theorem anchored_of_head {buf : List Byte} (h : buf.head? = some 0x44) : anchored buf = buf := by
  obtain ⟨tail, rfl⟩ := List.head?_eq_some_iff.mp h
  simp [Config.stxIn]

/-- A buffer that is a frame behind 0x44 and more bytes is cut right there. -/
theorem anchored_frame_append {f : Frame} (h : f.1.head? = some 0x44) (rest : List Byte) :
    anchored (f.1 ++ rest) = f.1 ++ rest :=
  anchored_of_head (by simp [List.head?_append, h])

/-- A frame cut off starts with 0x44: it is taken from the first one on. -/
theorem head_of_anchored_eq {buf rest : List Byte} {f : Frame} (h : anchored buf = f.1 ++ rest) :
    f.1.head? = some 0x44 := by
  have hne : f.1 ≠ [] := List.ne_nil_of_length_pos (by simp [f.2])
  have hanchored : anchored buf = [] ∨ (anchored buf).head? = some 0x44 := anchored_head buf
  rw [h] at hanchored
  rcases hanchored with hempty | hhead
  · obtain ⟨hnil, -⟩ := List.append_eq_nil_iff.mp hempty
    exact absurd hnil hne
  · rwa [List.head?_append_of_ne_nil _ hne] at hhead

/-- A buffer in the form of R27 holds no frame and is left as it is (R125). -/
theorem decodeBuf_of_RxbufOk {buf : List Byte} (h : RxbufOk buf) : decodeBuf buf = ([], buf) := by
  rcases h with rfl | ⟨hlen, hhead⟩
  · rfl
  · have hanchored : anchored buf = buf := anchored_of_head hhead
    rw [decodeBuf_of_short (by rwa [hanchored]), hanchored]

/-- A frame behind 0x44 alone in the buffer is cut off, and nothing is left (R126). -/
theorem decodeBuf_frame {f : Frame} (h : f.1.head? = some 0x44) : decodeBuf f.1 = ([f], []) := by
  have hcut : anchored f.1 = f.1 ++ [] := by rw [anchored_of_head h, List.append_nil]
  exact decodeBuf_of_cut hcut

theorem exec_decode (s : State) :
    exec .decode s = .next (State.deliver { s with rxbuf := (decodeBuf s.rxbuf).2 } (.frames (decodeBuf s.rxbuf).1)) :=
  rfl

/-- Settles O19: where the first 0x44 stands, and how many bytes there are from it, tells how a turn ends. -/
theorem decodePassFollowsItsSteps : Obligations.DecodePassFollowsItsSteps := by
  refine ⟨fun noise hnoise => ?none, fun noise tail hnoise hshort => ?short, fun noise f rest hnoise hf => ?cut,
    fun s => ⟨_, exec_decode s⟩⟩
  case none =>
    have hempty : anchored noise = [] := by simpa using anchored_noise_append hnoise []
    rw [decodeBuf_of_short (by simp [hempty]), hempty]
  case short =>
    have hkept : anchored (noise ++ 0x44 :: tail) = 0x44 :: tail := by
      rw [anchored_noise_append hnoise, anchored_of_head rfl]
    rw [decodeBuf_of_short (by rw [hkept, List.length_cons]; omega), hkept]
  case cut =>
    apply decodeBuf_of_cut
    rw [List.append_assoc, anchored_noise_append hnoise, anchored_frame_append hf]

/-- Settles O20: the row's meaning, with `deliver` writing the field `result` alone. -/
theorem decodeRowWorksInPlace : Obligations.DecodeRowWorksInPlace := exec_decode

/-- Settles O21: the pass leaves the form of R27, and a buffer in that form is left as it is. -/
theorem decodeLeavesFragmentAndIsIdempotent : Obligations.DecodeLeavesFragmentAndIsIdempotent := by
  intro b
  have hok : RxbufOk (decodeBuf b).2 := decodeBuf_keeps_RxbufOk b
  refine ⟨?_, decodeBuf_of_RxbufOk hok⟩
  rw [← List.head?_eq_getElem?]
  exact hok

/-- Settles O22: along the turns of the pass, each frame taking 16 bytes from a 0x44 on. -/
theorem decodeFramesAreFewAndAnchored : Obligations.DecodeFramesAreFewAndAnchored := by
  intro b
  induction b using decodeBuf_induction with
  | short b hshort => simp [decodeBuf_of_short hshort]
  | cut b f rest hcut ih =>
    obtain ⟨hfew, hheads⟩ := ih
    rw [decodeBuf_of_cut hcut]
    constructor
    · have hlen : (anchored b).length = 16 + rest.length := by rw [hcut, List.length_append, f.2]
      have hle : (anchored b).length ≤ b.length := (List.dropWhile_sublist _).length_le
      rw [List.length_cons]
      omega
    · exact List.forall_mem_cons.mpr ⟨head_of_anchored_eq hcut, hheads⟩

/-- Settles O23: the pass over a joined buffer. -/
theorem decodeIsChunkInvariant : Obligations.DecodeIsChunkInvariant := decodeBuf_append

end Sys2Proof.Machine
end

section
/-! `RX` and `RXFAIL` (R129, R130): which frames are delivered, and which are evaluated too. -/

namespace Sys2Proof.Machine

/-! Handling the decoded frames -/

/-- The flags that let frames reach `EVAL` (R129, D7). -/
theorem evalEnabled_iff (s : State) : s.evalEnabled = true ↔ s.running = true ∨ s.cfg.evalGated = false := by
  simp [State.evalEnabled]

@[simp] theorem consumeFrame_evalEnabled (s : State) (f : Frame) : (consumeFrame s f).evalEnabled = s.evalEnabled := by
  simp [State.evalEnabled]

/-- Frames that are not evaluated are delivered, and that is all. -/
theorem consumeAll_of_not_enabled (fs : List Frame) {s : State} (h : s.evalEnabled = false) :
    fs.foldl consumeFrame s = { s with trace := s.trace ++ fs.map fun f => .sink f (status f) } := by
  induction fs generalizing s with
  | nil => simp
  | cons f fs ih =>
    have hsink : consumeFrame s f = s.emitSink f := by simp [consumeFrame, h]
    rw [List.foldl_cons, ih (by simpa using h), hsink]
    simp [State.emitSink]

/-- What the rule R129 says of one decoded frame: delivered, and then evaluated while automation runs. -/
def deliverThenEval (s : State) (f : Frame) : State :=
  if s.running then evalOp f (s.emitSink f) else s.emitSink f

/-- With EVAL_GATED true every frame is handled as R129 says. -/
theorem consumeAll_of_gated (fs : List Frame) {s : State} (h : s.cfg.evalGated = true) :
    fs.foldl consumeFrame s = fs.foldl deliverThenEval s := by
  induction fs generalizing s with
  | nil => rfl
  | cons f fs ih =>
    have hframe : consumeFrame s f = deliverThenEval s f := by
      simp [consumeFrame, deliverThenEval, State.evalEnabled, h]
    rw [List.foldl_cons, List.foldl_cons, ih (by simpa using h), hframe]

/-- Settles O24: the frames of the pass in stream order, each handled as R129 says. -/
theorem rxDecodesDeliversEvaluates : Obligations.RxDecodesDeliversEvaluates := by
  intro c s hgated
  refine ⟨fun hclosed => ?_, fun hopen => ?_⟩
  · rw [exec_rx, receive_of_closed hclosed]
  · rw [exec_rx, receive, if_pos hopen]
    exact congrArg Host.Outcome.next (consumeAll_of_gated _ hgated)

/-- Settles O25: with automation stopped and EVAL_GATED true no frame is evaluated. -/
theorem rxWhileStoppedOnlyDelivers : Obligations.RxWhileStoppedOnlyDelivers := by
  intro c s hopen hstopped hgated
  have hoff : s.evalEnabled = false := by simp [State.evalEnabled, hstopped, hgated]
  rw [exec_rx, receive_of_open hopen, consumeAll_of_not_enabled _ hoff]
  rfl

/-- A frame behind 0x44 that arrives whole in an empty buffer is handled as one frame (R126). -/
theorem receive_frame {f : Frame} {s : State} (hopen : s.isOpen = true) (hempty : s.rxbuf = [])
    (hf : f.1.head? = some 0x44) : receive f.1 s = consumeFrame s f := by
  have hkept : (consumeFrame s f).rxbuf = [] := by rw [consumeFrame_rxbuf, hempty]
  rw [receive_of_open hopen, hempty, List.nil_append, decodeBuf_frame hf, ← hkept]
  rfl

/-- Settles O26: with the transport open the frame is cut off whole and handled; with it closed the arrival is ignored. -/
theorem wholeFrameArrivalIsDeliveredAndEvaluated : Obligations.WholeFrameArrivalIsDeliveredAndEvaluated := by
  intro f s t
  obtain ⟨hframe, htrigb, htriga⟩ := rxframeRowsAreArrivals f s
  refine ⟨fun hopen hempty hf ht => ?_, fun hclosed => ?_⟩
  · have harrival : receive f.1 s = if s.running = true ∨ s.cfg.evalGated = false then evalOp f t else t := by
      rw [receive_frame hopen hempty hf, consumeFrame, ht]
      simp only [evalEnabled_iff]
      rfl
    have hrx : exec (.rx f.1) s = .next (if s.running = true ∨ s.cfg.evalGated = false then evalOp f t else t) :=
      congrArg Host.Outcome.next harrival
    exact ⟨hrx, hframe.trans hrx, htrigb.trans hrx, fun href => by rw [htriga, ← href, hrx]⟩
  · have hignored (c : List Byte) : exec (.rx c) s = .next s := by rw [exec_rx, receive_of_closed hclosed]
    exact ⟨hframe.trans (hignored _), htrigb.trans (hignored _), htriga.trans (hignored _)⟩

theorem exec_rxfail (s : State) : exec .rxfail s = .next (s.report .ioRd) := rfl

/-- Settles O29: `report` appends its item and writes nothing else. -/
theorem rxfailReportsAndChangesNothing : Obligations.RxfailReportsAndChangesNothing := exec_rxfail

end Sys2Proof.Machine
end

section
/-! The open guard (R131, R196, R230): `SEND`, and what every operation does with the transport closed. -/

namespace Sys2Proof.Machine

theorem writeRaw_of_closed {s : State} (h : s.isOpen = false) (f : Frame) : writeRaw f s = s := by
  simp [writeRaw, h]

theorem sendOp_of_closed {s : State} (h : s.isOpen = false) (p : Payload) : sendOp p s = s :=
  writeRaw_of_closed h (commandFrame p)

/-- Settles O2: both rows are one `SEND`. -/
theorem sendWritesCommandFrameWhenOpen : Obligations.SendWritesCommandFrameWhenOpen := by
  intro p s
  have hsent : Sent p s (sendOp p s) := by
    rw [sendOp_eq_afterSend]
    exact afterSend_sent p s
  refine ⟨⟨_, rfl, hsent⟩, ⟨_, rfl, hsent⟩, fun hclosed => ?_⟩
  have hsame : exec (.send p) s = .next s := congrArg Host.Outcome.next (sendOp_of_closed hclosed p)
  exact ⟨hsame, hsame⟩

theorem stepChannel_trace_of_closed (x : Chan) (t : Bool) {s : State} (h : s.isOpen = false) :
    (stepChannel x t s).trace = s.trace := by
  rcases stepChannel_cases x t s with e | ⟨-, -, e⟩ | ⟨-, -, e⟩ | ⟨-, -, e⟩ <;> simp [e, sendOp_of_closed, h]

theorem guardedStep_trace_of_closed (x other : Chan) (t : Bool) {s : State} (h : s.isOpen = false) :
    (guardedStep x other t s).trace = s.trace := by
  rcases guardedStep_cases x other t s with e | ⟨-, e⟩ <;> rw [e]
  exact stepChannel_trace_of_closed x t h

theorem evalOp_trace_of_closed (f : Frame) {s : State} (h : s.isOpen = false) : (evalOp f s).trace = s.trace := by
  simp [evalOp, guardedStep_trace_of_closed, h]

theorem fireOp_trace_of_closed {s : State} (h : s.isOpen = false) : (fireOp s).trace = s.trace := by
  rcases fireOp_cases s with ⟨-, e⟩ | ⟨head, rest, -, e⟩ <;> simp [e, sendOp_of_closed, h]

theorem tickOp_trace_of_closed {s : State} (h : s.isOpen = false) : (tickOp s).trace = s.trace := by
  rcases tickOp_cases s with ⟨-, e⟩ | ⟨-, e⟩ <;> simp [e, sendOp_of_closed, h]

theorem schedulerStrobe_trace_of_closed {s : State} (h : s.isOpen = false) : (schedulerStrobe s).trace = s.trace := by
  rcases schedulerStrobe_cases s with ⟨-, e⟩ | ⟨-, -, e⟩ | ⟨-, -, e⟩ <;> simp [e, tickOp_trace_of_closed, h]

/-- The due firings keep the transport closed, so none of them writes. -/
theorem strobe_trace_of_closed {s : State} (h : s.isOpen = false) : (strobe s).trace = s.trace := by
  obtain ⟨hclosed, hfired⟩ : (fireDue s.pending.length (countDown s)).isOpen = false ∧
      (fireDue s.pending.length (countDown s)).trace = s.trace :=
    fireDue_induction (P := fun u => u.isOpen = false ∧ u.trace = s.trace)
      (fun u ⟨hu, htrace⟩ => ⟨by simpa using hu, (fireOp_trace_of_closed hu).trans htrace⟩) _ ⟨h, rfl⟩
  exact (schedulerStrobe_trace_of_closed hclosed).trans hfired

/-- Settles O57: with the transport closed every effect leaves the trace as it is, but for a report. -/
theorem nothingIsWrittenWhileClosed : Obligations.NothingIsWrittenWhileClosed := by
  intro i s t hclosed h
  cases exec_effect h with
  | connect | disconnect | start | stop | deliver | decode => rfl
  | write f => rw [writeRaw_of_closed hclosed]
  | receive chunk => rw [receive_of_closed hclosed]
  | report code => simp
  | strobe => rw [strobe_trace_of_closed hclosed]
  | tick => rw [tickOp_trace_of_closed hclosed]
  | fire => rw [fireOp_trace_of_closed hclosed]
  | eval f => rw [evalOp_trace_of_closed f hclosed]

end Sys2Proof.Machine
end

section
/-! `STEP` by its table (R145 to R149): the state a channel goes to, what it sends, what it arms; and `FIRE` (R151). -/

namespace Sys2Proof.Machine

/-! The cells of `STEP` -/

/-- The state to which `STEP` takes a channel, by the channel's state and the trigger (R145 to R148). -/
def nextCh : ChState → Bool → ChState
  | .idle, true => .vacuumsOn
  | .vacuumsOn, false => .readyForBreak
  | .readyForBreak, true => .breaking
  | v, _ => v

/-- The payloads `STEP` sends (R145, R147). -/
def stepSends (cfg : Config.Params) (x : Chan) : ChState → Bool → List Payload
  | .idle, true => [vac cfg x]
  | .readyForBreak, true => [brk cfg x]
  | _, _ => []

/-- The entries `STEP` arms (R147, R150). -/
def stepArms (x : Chan) : ChState → Bool → List Pending
  | .readyForBreak, true => [⟨x, 1000⟩]
  | _, _ => []

/-- Only `FIRE` and the verbs lead back to `Idle`. -/
theorem nextCh_ne_idle {v : ChState} {t : Bool} (h : v ≠ .idle ∨ t = true) : nextCh v t ≠ .idle := by
  cases v <;> cases t <;> simp_all [nextCh]

@[simp] theorem stepChannel_ch_same (x : Chan) (t : Bool) (s : State) :
    (stepChannel x t s).ch x = nextCh (s.ch x) t := by
  unfold stepChannel
  split <;> simp_all [nextCh]

@[simp] theorem stepChannel_pending (x : Chan) (t : Bool) (s : State) :
    (stepChannel x t s).pending = s.pending ++ stepArms x (s.ch x) t := by
  unfold stepChannel
  split <;> simp_all [stepArms]

/-- A command is sent before or after an entry is armed, to the same effect. -/
theorem sendOp_arm (p : Payload) (s : State) (x : Chan) : (sendOp p s).arm x = sendOp p (s.arm x) := by
  unfold sendOp
  rw [State.arm_isOpen]
  split <;> rfl

/-- A command is sent before or after a channel is moved, to the same effect. -/
theorem sendOp_setCh (p : Payload) (s : State) (x : Chan) (v : ChState) :
    (sendOp p s).setCh x v = sendOp p (s.setCh x v) := by
  unfold sendOp
  rw [State.setCh_isOpen]
  cases x <;> split <;> rfl

/-- Where the table leads to the same state, nothing happens (R149). -/
theorem stepChannel_of_stays {x : Chan} {t : Bool} {s : State} (h : nextCh (s.ch x) t = s.ch x) :
    stepChannel x t s = s := by
  rcases stepChannel_cases x t s with e | ⟨hx, rfl, -⟩ | ⟨hx, rfl, -⟩ | ⟨hx, rfl, -⟩
  · exact e
  all_goals simp [hx, nextCh] at h

/-- R145: the first press starts the cycle. -/
theorem stepChannel_start {x : Chan} {s : State} (h : s.ch x = .idle) :
    stepChannel x true s = afterSend (vac s.cfg x) (s.setCh x .vacuumsOn) := by
  rw [← sendOp_eq_afterSend]
  simp [stepChannel, h]

/-- R146: the release arms the next edge. -/
theorem stepChannel_release {x : Chan} {s : State} (h : s.ch x = .vacuumsOn) :
    stepChannel x false s = s.setCh x .readyForBreak := by
  simp [stepChannel, h]

/-- R147: the second press breaks, and defers the reset. -/
theorem stepChannel_break {x : Chan} {s : State} (h : s.ch x = .readyForBreak) :
    stepChannel x true s = afterSend (brk s.cfg x) ((s.setCh x .breaking).arm x) := by
  rw [← sendOp_eq_afterSend, ← sendOp_arm]
  simp [stepChannel, h]

/-- Moving a channel leaves the list to which the entry is appended. -/
theorem State.arm_setCh (s : State) (x y : Chan) (v : ChState) :
    (s.setCh x v).arm y = { s.setCh x v with pending := s.pending ++ [⟨y, 1000⟩] } := by
  cases x <;> rfl

/-- Settles O30, cell by cell. -/
theorem stepFollowsTransitionTable : Obligations.StepFollowsTransitionTable := by
  intro x s
  refine ⟨fun hidle => ⟨?_, ?_⟩, fun hvac => ⟨?_, ?_⟩, fun hready => ⟨?_, ?_⟩, fun hbreaking => ⟨?_, ?_⟩⟩
  · rw [stepChannel_start hidle]
    exact afterSend_sent _ _
  · exact stepChannel_of_stays (by simp [hidle, nextCh])
  · exact stepChannel_of_stays (by simp [hvac, nextCh])
  · exact stepChannel_release hvac
  · rw [stepChannel_break hready, ← State.arm_setCh]
    exact afterSend_sent _ _
  · exact stepChannel_of_stays (by simp [hready, nextCh])
  · exact stepChannel_of_stays (by simp [hbreaking, nextCh])
  · exact stepChannel_of_stays (by simp [hbreaking, nextCh])

/-! `FIRE` -/

theorem exec_fire (s : State) : exec .fire s = .next (fireOp s) := rfl

/-- R151: the oldest entry goes, the reset is sent and the entry's channel is `Idle`. -/
theorem fireOp_of_cons {s : State} {e : Pending} {rest : List Pending} (h : s.pending = e :: rest) :
    fireOp s = sendOp Config.zero9 ({ s with pending := rest }.setCh e.ch .idle) := by
  rw [← sendOp_setCh]
  simp [fireOp, h]

/-- Settles O34: `FIRE` is one `SEND` from the state that has lost the entry and has its channel `Idle`. -/
theorem firePerformsOldestEntry : Obligations.FirePerformsOldestEntry := by
  refine fun s => ⟨fun hnone => ?_, fun x n rest hp => ⟨_, exec_fire s, ?_⟩⟩
  · rw [exec_fire, fireOp, hnone]
  · rw [fireOp_of_cons hp, sendOp_eq_afterSend]
    exact afterSend_sent _ _

end Sys2Proof.Machine
end

section
/-! `EVAL` as one channel sees it while the other is `Idle` (R142 to R148, R156). -/

namespace Sys2Proof.Machine

/-- `trig_x(f)`: the trigger of each channel (R142, R143). -/
def trig (cfg : Config.Params) (f : Frame) : Chan → Bool
  | .a => trigA cfg f
  | .b => trigB f

theorem trig_a_iff {cfg : Config.Params} {f : Frame} : trig cfg f .a = true ↔ f = cfg.refA := beq_iff_eq

theorem trig_b_iff {cfg : Config.Params} {f : Frame} : trig cfg f .b = true ↔ f.1[10]? = some 0x04 := by
  simp [trig, trigB, Config.trigbOff, Config.trigbVal]

/-- The guard of R144 lets `STEP` pass while the other channel is `Idle`. -/
theorem guardedStep_of_idle {x other : Chan} {s : State} (h : s.ch other = .idle) (t : Bool) :
    guardedStep x other t s = stepChannel x t s := if_pos h

/-- The guard of R144 stops `STEP` while the other channel is not `Idle`. -/
theorem guardedStep_of_active {x other : Chan} {s : State} (h : s.ch other ≠ .idle) (t : Bool) :
    guardedStep x other t s = s := if_neg h

/-- There are two channels only. -/
theorem Chan.eq_of_ne {x y z : Chan} (hy : y ≠ x) (hz : z ≠ x) : y = z := by
  cases x <;> cases y <;> cases z <;> simp_all

/-- The channel that `EVAL` of `f` moves, once the other one is `Idle`: one that is under way, and with both `Idle`
channel A for REF_A and channel B for every other frame (R156). -/
def Reaches (s : State) (f : Frame) (x : Chan) : Prop := s.ch x ≠ .idle ∨ (f = s.cfg.refA ↔ x = .a)

/-- While the other channel is `Idle`, `EVAL` is the `STEP` of the channel that the frame reaches. -/
theorem evalOp_eq_stepChannel {x y : Chan} (hne : y ≠ x) {f : Frame} {s : State} (hother : s.ch y = .idle)
    (hreach : Reaches s f x) : evalOp f s = stepChannel x (trig s.cfg f x) s := by
  cases x with
  | a =>
    obtain rfl : y = .b := Chan.eq_of_ne hne (by decide)
    have hedge : s.ch .a ≠ .idle ∨ trig s.cfg f .a = true := hreach.imp_right fun hf => trig_a_iff.mpr (hf.mpr rfl)
    have hactive : (stepChannel .a (trig s.cfg f .a) s).ch .a ≠ .idle := by
      rw [stepChannel_ch_same]
      exact nextCh_ne_idle hedge
    rw [evalOp, guardedStep_of_idle hother]
    exact guardedStep_of_active hactive _
  | b =>
    obtain rfl : y = .a := Chan.eq_of_ne hne (by decide)
    have hstill : guardedStep .a .b (trigA s.cfg f) s = s := by
      by_cases hb : s.ch .b = .idle
      · have hf : f ≠ s.cfg.refA := by simpa [Reaches, hb] using hreach
        have hno : trigA s.cfg f = false := Bool.eq_false_of_not_eq_true (trig_a_iff.not.mpr hf)
        rw [guardedStep_of_idle hb]
        exact stepChannel_of_stays (by simp only [hother, hno, nextCh])
      · exact guardedStep_of_active hb _
    rw [evalOp, hstill]
    exact guardedStep_of_idle hother _

theorem exec_eval (f : Frame) (s : State) : exec (.eval f) s = .next (evalOp f s) := rfl

section
variable {x y : Chan} {f : Frame} {s : State}

theorem exec_eval_stays (hne : y ≠ x) (hother : s.ch y = .idle) (hreach : Reaches s f x)
    (h : nextCh (s.ch x) (trig s.cfg f x) = s.ch x) : exec (.eval f) s = .next s := by
  rw [exec_eval, evalOp_eq_stepChannel hne hother hreach, stepChannel_of_stays h]

theorem exec_eval_start (hne : y ≠ x) (hother : s.ch y = .idle) (hidle : s.ch x = .idle)
    (hf : f = s.cfg.refA ↔ x = .a) (ht : trig s.cfg f x = true) :
    exec (.eval f) s = .next (afterSend (vac s.cfg x) (s.setCh x .vacuumsOn)) := by
  rw [exec_eval, evalOp_eq_stepChannel hne hother (.inr hf), ht, stepChannel_start hidle]

theorem exec_eval_release (hne : y ≠ x) (hother : s.ch y = .idle) (hvac : s.ch x = .vacuumsOn)
    (ht : trig s.cfg f x ≠ true) : exec (.eval f) s = .next (s.setCh x .readyForBreak) := by
  rw [exec_eval, evalOp_eq_stepChannel hne hother (.inl (by simp [hvac])), Bool.eq_false_of_not_eq_true ht,
    stepChannel_release hvac]

theorem exec_eval_break (hne : y ≠ x) (hother : s.ch y = .idle) (hready : s.ch x = .readyForBreak)
    (ht : trig s.cfg f x = true) :
    exec (.eval f) s = .next (afterSend (brk s.cfg x) ((s.setCh x .breaking).arm x)) := by
  rw [exec_eval, evalOp_eq_stepChannel hne hother (.inl (by simp [hready])), ht, stepChannel_break hready]

end

/-- Settles O31: the four moves of `STEP` for channel A, and the frames on which it stays. -/
theorem evalMovesChannelA : Obligations.EvalMovesChannelA := by
  intro f s hB
  have hne : Chan.b ≠ .a := by decide
  refine ⟨fun hidle hf => ?start, fun hvac hf => ?hold, fun hvac hf => ?release, fun hready hf => ?breaks,
    fun hready hf => ?wait, fun hbreaking => ?breaking⟩
  case start => exact exec_eval_start hne hB hidle (by simp [hf]) (trig_a_iff.mpr hf)
  case release => exact exec_eval_release hne hB hvac (trig_a_iff.not.mpr hf)
  case breaks => exact exec_eval_break hne hB hready (trig_a_iff.mpr hf)
  case hold =>
    exact exec_eval_stays hne hB (.inl (by simp [hvac])) (by simp [hvac, trig_a_iff.mpr hf, nextCh])
  case wait =>
    have hno : trig s.cfg f .a = false := Bool.eq_false_of_not_eq_true (trig_a_iff.not.mpr hf)
    exact exec_eval_stays hne hB (.inl (by simp [hready])) (by simp [hready, hno, nextCh])
  case breaking => exact exec_eval_stays hne hB (.inl (by simp [hbreaking])) (by simp [hbreaking, nextCh])

/-- Settles O32: the same moves for channel B; from `Idle` only frames that do not start channel A reach it. -/
theorem evalMovesChannelB : Obligations.EvalMovesChannelB := by
  intro f s hA
  have hne : Chan.a ≠ .b := by decide
  have hno (h : f.1[10]? ≠ some 0x04) : trig s.cfg f .b = false :=
    Bool.eq_false_of_not_eq_true (trig_b_iff.not.mpr h)
  refine ⟨fun hidle href hf => ?start, fun hidle href hf => ?idle, fun hvac hf => ?hold, fun hvac hf => ?release,
    fun hready hf => ?breaks, fun hready hf => ?wait, fun hbreaking => ?breaking⟩
  case start => exact exec_eval_start hne hA hidle (by simp [href]) (trig_b_iff.mpr hf)
  case release => exact exec_eval_release hne hA hvac (trig_b_iff.not.mpr hf)
  case breaks => exact exec_eval_break hne hA hready (trig_b_iff.mpr hf)
  case idle => exact exec_eval_stays hne hA (.inr (by simp [href])) (by simp [hidle, hno hf, nextCh])
  case hold =>
    exact exec_eval_stays hne hA (.inl (by simp [hvac])) (by simp [hvac, trig_b_iff.mpr hf, nextCh])
  case wait => exact exec_eval_stays hne hA (.inl (by simp [hready])) (by simp [hready, hno hf, nextCh])
  case breaking => exact exec_eval_stays hne hA (.inl (by simp [hbreaking])) (by simp [hbreaking, nextCh])

end Sys2Proof.Machine
end

section
/-! What every permitted `STEP` keeps, `EVAL` and `RX` keep: mutual exclusion (R153), the lock-out of the other channel
(R144, R157), the entries of `pending` (R152). -/

namespace Sys2Proof.Machine

/-- `P` is kept by each thing the handling of a chunk is made of: a `STEP` of a channel, run while the other channel is
`Idle` (R144), a delivery to the sink, a new receive buffer. -/
structure KeptByReception (P : State → Prop) : Prop where
  step : ∀ {x y : Chan} (t : Bool) (s : State), y ≠ x → s.ch y = .idle → P s → P (stepChannel x t s)
  sink : ∀ (s : State) (f : Frame), P s → P (s.emitSink f)
  buffer : ∀ (s : State) (buf : List Byte), P s → P (s.withRxbuf buf)

theorem KeptByReception.guardedStep {P : State → Prop} (hP : KeptByReception P) {x y : Chan} (hne : y ≠ x) (t : Bool)
    {s : State} (h : P s) : P (guardedStep x y t s) := by
  rcases guardedStep_cases x y t s with e | ⟨hidle, e⟩ <;> rw [e]
  · exact h
  · exact hP.step t s hne hidle h

theorem KeptByReception.evalOp {P : State → Prop} (hP : KeptByReception P) (f : Frame) {s : State} (h : P s) :
    P (evalOp f s) :=
  hP.guardedStep (by decide) _ (hP.guardedStep (by decide) _ h)

theorem KeptByReception.receive {P : State → Prop} (hP : KeptByReception P) (c : List Byte) {s : State} (h : P s) :
    P (receive c s) := by
  refine receive_induction (fun u f hu => ?_) c h (hP.buffer s _ h)
  unfold consumeFrame
  split
  · exact hP.evalOp f (hP.sink u f hu)
  · exact hP.sink u f hu

/-! Mutual exclusion (R153) -/

theorem mutuallyExclusive_kept : KeptByReception MutuallyExclusive where
  step := fun t s hne hidle _ => mutuallyExclusive_of_ch_idle ((stepChannel_ch_other t s hne).trans hidle)
  sink := fun _ _ h => h
  buffer := fun _ _ h => h

theorem strobe_keeps_exclusive {s : State} (h : MutuallyExclusive s) : MutuallyExclusive (strobe s) := by
  have hfired : MutuallyExclusive (fireDue s.pending.length (countDown s)) :=
    fireDue_induction fireOp_keeps_exclusive _ h
  simpa [strobe, MutuallyExclusive] using hfired

/-- Settles O46: each effect moves a channel only while the other one is `Idle`, or only to `Idle`. -/
theorem mutualExclusionIsPreserved : Obligations.MutualExclusionIsPreserved := by
  intro i s t (hs : MutuallyExclusive s) h
  change MutuallyExclusive t
  cases exec_effect h with
  | connect | disconnect | report | deliver | decode => exact hs
  | start | stop => exact .inl rfl
  | write | tick => simpa [MutuallyExclusive] using hs
  | receive c => exact mutuallyExclusive_kept.receive c hs
  | strobe => exact strobe_keeps_exclusive hs
  | fire => exact fireOp_keeps_exclusive s hs
  | eval f => exact mutuallyExclusive_kept.evalOp f hs

/-! The lock-out (R144, R157) -/

/-- Channel `x` is under way and channel `y` is in the state `v`. -/
def LockedOut (x y : Chan) (v : ChState) (s : State) : Prop := s.ch y = v ∧ s.ch x ≠ .idle

/-- A permitted `STEP` is not one of the locked-out channel, and does not lead back to `Idle`. -/
theorem lockedOut_kept {x y : Chan} (hne : y ≠ x) (v : ChState) : KeptByReception (LockedOut x y v) where
  step := by
    rintro z w t s hwz hidle ⟨hy, hx⟩
    have hwx : w ≠ x := by rintro rfl; exact hx hidle
    obtain rfl : z = x := Chan.eq_of_ne hwz.symm hwx.symm
    refine ⟨(stepChannel_ch_other t s hne).trans hy, ?_⟩
    rw [stepChannel_ch_same]
    exact nextCh_ne_idle (.inl hx)
  sink := fun s f h => by simpa [LockedOut] using h
  buffer := fun s buf h => by simpa [LockedOut] using h

theorem receive_locksOut {x y : Chan} (hne : y ≠ x) (c : List Byte) {s : State} (hx : s.ch x ≠ .idle) :
    LockedOut x y (s.ch y) (receive c s) :=
  (lockedOut_kept hne (s.ch y)).receive c ⟨rfl, hx⟩

/-- Settles O33: the lock-out, for either channel under way. -/
theorem activeChannelLocksOutTheOther : Obligations.ActiveChannelLocksOutTheOther := by
  intro c s t h
  obtain rfl := Host.Outcome.next.inj h
  exact ⟨receive_locksOut (x := .a) (y := .b) (by decide) c, receive_locksOut (x := .b) (y := .a) (by decide) c⟩

/-! The entries of `pending` (R152, R246) -/

theorem pendingPrefix_kept (p : List Pending) : KeptByReception fun s => p <+: s.pending where
  step := fun {x _} t s _ _ h => by
    rw [stepChannel_pending]
    exact h.trans (List.prefix_append _ _)
  sink := fun _ _ h => h
  buffer := fun _ _ h => h

theorem receive_pending_prefix (c : List Byte) (s : State) : s.pending <+: (receive c s).pending :=
  (pendingPrefix_kept s.pending).receive c List.prefix_rfl

theorem evalOp_pending_prefix (f : Frame) (s : State) : s.pending <+: (evalOp f s).pending :=
  (pendingPrefix_kept s.pending).evalOp f List.prefix_rfl

/-- Settles O59: a `STEP` appends, and apart from the due firings no other operation writes the list. -/
theorem pendingLeavesOnlyByFiring : Obligations.PendingLeavesOnlyByFiring := by
  intro i s t h
  refine ⟨fun htb hfire => ?_, fun hi => ?_⟩
  · cases i
    case tb => exact absurd rfl htb
    case fire => exact absurd rfl hfire
    case encode a c payload =>
      obtain ⟨r, rfl⟩ := execEncode_next h
      exact List.prefix_rfl
    all_goals obtain rfl := Host.Outcome.next.inj h
    case connect | disconnect | start | stop | rxfail | crc16 | decode => exact List.prefix_rfl
    case rx | rxframe | rxframeTrigb | rxframeTriga => exact receive_pending_prefix _ s
    case eval f => exact evalOp_pending_prefix f s
    case tick => rw [tickOp_pending]
    case sendcmd | send | txframePoll => rw [sendOp_pending]
    case sendraw | txframe | txframeEncode => rw [writeRaw_pending]
  · simp only [List.mem_cons, List.not_mem_nil, or_false] at hi
    rcases hi with rfl | rfl | rfl | rfl | rfl | rfl
    all_goals
      obtain rfl := Host.Outcome.next.inj h
      simp

end Sys2Proof.Machine
end

section
/-! The whole cycle of a channel (R154): each of its frames moves the channel by the table of `STEP`. -/

namespace Sys2Proof.Machine

@[simp] theorem txs_sendOp (p : Payload) {s : State} (h : s.isOpen = true) :
    txs (sendOp p s).trace = txs s.trace ++ [encodeFrame 0x03 0x85 p] := by
  rw [sendOp_eq_afterSend]
  simp [afterSend, h]

/-- With the transport open `STEP` writes what its table sends. -/
theorem txs_stepChannel (x : Chan) (t : Bool) {s : State} (h : s.isOpen = true) :
    txs (stepChannel x t s).trace =
      txs s.trace ++ (stepSends s.cfg x (s.ch x) t).map (encodeFrame 0x03 0x85) := by
  unfold stepChannel
  split <;> simp_all [stepSends]

/-- During the cycle of channel `x`, in the state `v`: the next whole frame is decoded and evaluated, channel `y` waits. -/
structure InCycle (cfg : Config.Params) (x y : Chan) (v : ChState) (s : State) : Prop where
  isOpen : s.isOpen = true
  running : s.running = true
  buffer : s.rxbuf = []
  params : s.cfg = cfg
  channel : s.ch x = v
  other : s.ch y = .idle

/-- What one frame leaves behind besides the moved channel: the entries armed, the writes, the delivery. -/
structure FrameLeaves (armed : List Pending) (sent : List Payload) (f : Frame) (s t : State) : Prop where
  pending : t.pending = s.pending ++ armed
  writes : txs t.trace = txs s.trace ++ sent.map (encodeFrame 0x03 0x85)
  delivery : sinks t.trace = sinks s.trace ++ [f]

/-- A frame that arrives whole and reaches channel `x` moves it by the table. -/
theorem InCycle.rx_frame {cfg : Config.Params} {x y : Chan} {v : ChState} {s : State} (hs : InCycle cfg x y v s)
    (hne : y ≠ x) {f : Frame} (hf : f.1.head? = some 0x44) (hreach : v ≠ .idle ∨ (f = cfg.refA ↔ x = .a)) {t : Bool}
    (ht : trig cfg f x = t) :
    ∃ u, exec (.rx f.1) s = .next u ∧ InCycle cfg x y (nextCh v t) u ∧
      FrameLeaves (stepArms x v t) (stepSends cfg x v t) f s u := by
  obtain ⟨hopen, hrun, hbuf, rfl, rfl, hother⟩ := hs
  have harrival : receive f.1 s = stepChannel x t (s.emitSink f) := by
    rw [receive_frame hopen hbuf hf, consumeFrame, if_pos ((evalEnabled_iff s).mpr (.inl hrun)),
      evalOp_eq_stepChannel hne (by simpa using hother) (by simpa [Reaches] using hreach), State.emitSink_cfg, ht]
  refine ⟨_, (exec_rx f.1 s).trans (congrArg Host.Outcome.next harrival), ?_, ?_⟩
  · exact ⟨by simpa, by simpa, by simpa, by simp, by simp, by simpa [stepChannel_ch_other t _ hne]⟩
  · exact ⟨by simp, by simp [txs_stepChannel, hopen], by simp⟩

/-- The deferred action ends the cycle. -/
theorem InCycle.fire {cfg : Config.Params} {x y : Chan} {v : ChState} {s : State} (hs : InCycle cfg x y v s)
    (hne : y ≠ x) {n : Nat} (hp : s.pending = [⟨x, n⟩]) :
    ∃ u, exec .fire s = .next u ∧ InCycle cfg x y .idle u ∧ u.pending = [] ∧
      txs u.trace = txs s.trace ++ [encodeFrame 0x03 0x85 Config.zero9] ∧ sinks u.trace = sinks s.trace := by
  obtain ⟨hopen, hrun, hbuf, hcfg, -, hother⟩ := hs
  have hstill : (fireOp s).ch y = .idle := by
    rw [fireOp_of_cons hp, sendOp_ch, State.ch_setCh_other _ _ hne]
    exact hother
  have hended : (fireOp s).ch x = .idle := by simp [fireOp_of_cons hp]
  have hwrites : txs (fireOp s).trace = txs s.trace ++ [encodeFrame 0x03 0x85 Config.zero9] := by
    simp [fireOp_of_cons hp, hopen]
  exact ⟨_, exec_fire s, ⟨by simpa, by simpa, by simpa, by simpa, hended, hstill⟩, by simp [hp], hwrites, by simp⟩

/-- Settles O35: four frames and the deferred action, each by what it does to the state the one before left. -/
theorem fullCycleEmitsThreeCommands : Obligations.FullCycleEmitsThreeCommands := by
  intro x y press release s hopen hrun hbuf hpend hA hB hpress hrelease hxy
  have hne : y ≠ x := by rcases hxy with ⟨rfl, rfl, -⟩ | ⟨rfl, rfl, -⟩ <;> decide
  have hidle (z : Chan) : s.ch z = .idle := by cases z <;> assumption
  have hstarts : press = s.cfg.refA ↔ x = .a := by
    rcases hxy with ⟨rfl, -, h, -⟩ | ⟨rfl, -, h, -⟩ <;> simp [h]
  have hon : trig s.cfg press x = true := by
    rcases hxy with ⟨rfl, -, h, -⟩ | ⟨rfl, -, -, h, -⟩
    · exact trig_a_iff.mpr h
    · exact trig_b_iff.mpr h
  have hoff : trig s.cfg release x = false := by
    rcases hxy with ⟨rfl, -, -, h⟩ | ⟨rfl, -, -, -, h⟩
    · exact Bool.eq_false_of_not_eq_true (trig_a_iff.not.mpr h)
    · exact Bool.eq_false_of_not_eq_true (trig_b_iff.not.mpr h)
  have hs : InCycle s.cfg x y .idle s := ⟨hopen, hrun, hbuf, rfl, hidle x, hidle y⟩
  obtain ⟨t₁, run₁, hs₁, left₁⟩ := hs.rx_frame hne hpress (.inr hstarts) hon
  obtain ⟨t₂, run₂, hs₂, left₂⟩ := hs₁.rx_frame hne hpress (.inl (by decide)) hon
  obtain ⟨t₃, run₃, hs₃, left₃⟩ := hs₂.rx_frame hne hrelease (.inl (by decide)) hoff
  obtain ⟨t₄, run₄, hs₄, left₄⟩ := hs₃.rx_frame hne hpress (.inl (by decide)) hon
  have hpend₄ : t₄.pending = [⟨x, 1000⟩] := by
    rw [left₄.pending, left₃.pending, left₂.pending, left₁.pending, hpend]
    rfl
  obtain ⟨t₅, run₅, hs₅, hpend₅, hwrites₅, hsinks₅⟩ := hs₄.fire hne hpend₄
  have hsinks : sinks t₅.trace = sinks s.trace ++ [press, press, release, press] := by
    rw [hsinks₅, left₄.delivery, left₃.delivery, left₂.delivery, left₁.delivery]
    simp
  have hquiet₂ : txs t₂.trace = txs t₁.trace := left₂.writes.trans (List.append_nil _)
  have hquiet₃ : txs t₃.trace = txs t₂.trace := left₃.writes.trans (List.append_nil _)
  exact ⟨t₁, t₂, t₃, t₄, t₅, run₁, hs₁.channel, left₁.writes, run₂, hs₂.channel, hquiet₂, run₃, hs₃.channel, hquiet₃,
    run₄, hs₄.channel, hpend₄, left₄.writes, run₅, hs₅.channel, hs₅.other, hpend₅, hs₅.buffer, hwrites₅, hsinks⟩

end Sys2Proof.Machine
end

section
/-! `TICK` (R170 to R172): one `SEND` of the payload that the channels call for. -/

namespace Sys2Proof.Machine

theorem isHeld_iff (v : ChState) : isHeld v = true ↔ v = .vacuumsOn ∨ v = .readyForBreak := by
  cases v <;> simp [isHeld]

/-- The priority of R171, with the held states written out. -/
theorem tickPayload_eq (s : State) :
    tickPayload s =
      if s.chA = .vacuumsOn ∨ s.chA = .readyForBreak then s.cfg.vacA
      else if s.chB = .vacuumsOn ∨ s.chB = .readyForBreak then s.cfg.vacB
      else Config.zero9 := by
  simp only [tickPayload, isHeld_iff, vac]

theorem exec_tick (s : State) : exec .tick s = .next (tickOp s) := rfl

theorem tickOp_of_stopped {s : State} (h : s.running = false) : tickOp s = s := by
  simp [tickOp, h]

theorem tickOp_of_running {s : State} (h : s.running = true) : tickOp s = afterSend (tickPayload s) s := by
  rw [tickOp, if_pos h, sendOp_eq_afterSend]

/-- Settles O36: a tick is one `SEND` of its payload, or nothing at all. -/
theorem tickSendsByPriority : Obligations.TickSendsByPriority := by
  refine fun s => ⟨fun hstopped => ?_, fun hrun => ⟨_, exec_tick s, ?_⟩⟩
  · rw [exec_tick, tickOp_of_stopped hstopped]
  · rw [tickOp_of_running hrun, ← tickPayload_eq]
    exact afterSend_sent _ s

end Sys2Proof.Machine
end

section
/-! Which instructions write the tick counter (R175) and which the receive buffer (R27). -/

namespace Sys2Proof.Machine

theorem exec_keeps_tickCnt {i : Instr} {s t : State} (h : exec i s = .next t) (hi : i ∉ [Instr.start, .stop, .tb]) :
    t.tickCnt = s.tickCnt := by
  cases i
  case start | stop | tb => simp at hi
  case encode a c payload =>
    obtain ⟨r, rfl⟩ := execEncode_next h
    rfl
  all_goals obtain rfl := Host.Outcome.next.inj h
  case connect | disconnect | rxfail | crc16 | decode => rfl
  case sendcmd p | send p => exact sendOp_tickCnt p s
  case txframePoll => exact sendOp_tickCnt Config.zero9 s
  case sendraw | txframe | txframeEncode => exact writeRaw_tickCnt _ s
  case rx | rxframe | rxframeTrigb | rxframeTriga => exact receive_tickCnt _ s
  case tick => exact tickOp_tickCnt s
  case fire => exact fireOp_tickCnt s
  case eval f => exact evalOp_tickCnt f s

theorem exec_keeps_rxbuf {i : Instr} {s t : State} (h : exec i s = .next t)
    (hi : i ∉ [Instr.connect, .disconnect, .decode, .rxframeTriga]) (hrx : ∀ c, i ≠ .rx c)
    (hrxframe : ∀ f, i ≠ .rxframe f) (htrigb : ∀ f, i ≠ .rxframeTrigb f) : t.rxbuf = s.rxbuf := by
  cases i
  case connect | disconnect | decode | rxframeTriga => simp at hi
  case rx c => exact absurd rfl (hrx c)
  case rxframe f => exact absurd rfl (hrxframe f)
  case rxframeTrigb f => exact absurd rfl (htrigb f)
  case encode a c payload =>
    obtain ⟨r, rfl⟩ := execEncode_next h
    rfl
  all_goals obtain rfl := Host.Outcome.next.inj h
  case start | stop | rxfail | crc16 => rfl
  case sendcmd p | send p => exact sendOp_rxbuf p s
  case txframePoll => exact sendOp_rxbuf Config.zero9 s
  case sendraw | txframe | txframeEncode => exact writeRaw_rxbuf _ s
  case tb => exact strobe_rxbuf s
  case tick => exact tickOp_rxbuf s
  case fire => exact fireOp_rxbuf s
  case eval f => exact evalOp_rxbuf f s

/-- Settles O55: each other instruction by the frame of its operation. -/
theorem counterAndBufferFrame : Obligations.CounterAndBufferFrame :=
  fun _ _ _ h => ⟨exec_keeps_tickCnt h, exec_keeps_rxbuf h⟩

end Sys2Proof.Machine
end

section
/-! `FIRE` and `TICK` read neither the tick counter nor the strobes left: they are the untimed model's events (R178). -/

namespace Sys2Proof.Machine

/-- The state with another tick counter and with the strobes left of every entry changed by `g`. -/
def State.retimed (s : State) (c : Nat) (g : Nat → Nat) : State :=
  { s with tickCnt := c, pending := s.pending.map fun e => { e with remaining := g e.remaining } }

section
variable (s : State) (c : Nat) (g : Nat → Nat)

@[simp] theorem State.retimed_isOpen : (s.retimed c g).isOpen = s.isOpen := rfl
@[simp] theorem State.retimed_running : (s.retimed c g).running = s.running := rfl
@[simp] theorem State.retimed_tickCnt : (s.retimed c g).tickCnt = c := rfl
@[simp] theorem State.retimed_pending :
    (s.retimed c g).pending = s.pending.map fun e => { e with remaining := g e.remaining } := rfl

/-- The untimed model does not see the difference. -/
@[simp] theorem untimedView_retimed : untimedView (s.retimed c g) = untimedView s := by
  simp [untimedView, State.retimed]

@[simp] theorem State.retimed_setCh (x : Chan) (v : ChState) :
    (s.retimed c g).setCh x v = (s.setCh x v).retimed c g := by
  cases x <;> rfl

@[simp] theorem sendOp_retimed (p : Payload) : sendOp p (s.retimed c g) = (sendOp p s).retimed c g := by
  unfold sendOp
  rw [State.retimed_isOpen]
  split <;> rfl

theorem fireOp_retimed : fireOp (s.retimed c g) = (fireOp s).retimed c g := by
  rcases fireOp_cases s with ⟨hp, e⟩ | ⟨head, rest, hp, e⟩ <;> rw [e]
  · simp [fireOp, hp]
  · rw [← State.retimed_setCh, ← sendOp_retimed]
    simp only [fireOp, State.retimed_pending, hp, List.map_cons]
    rfl

theorem tickOp_retimed : tickOp (s.retimed c g) = (tickOp s).retimed c g := by
  unfold tickOp
  rw [State.retimed_running]
  split
  · exact sendOp_retimed s c g (tickPayload s)
  · rfl

end

/-- The events of the untimed model that stand for the strobes. -/
def IsFireOrTick (i : Instr) : Prop := i = .fire ∨ i = .tick

theorem exec_retimed {i : Instr} (hi : IsFireOrTick i) (s : State) :
    ∃ t, exec i s = .next t ∧ ∀ c g, exec i (s.retimed c g) = .next (t.retimed c g) := by
  rcases hi with rfl | rfl
  · exact ⟨_, exec_fire s, fun c g => congrArg Host.Outcome.next (fireOp_retimed s c g)⟩
  · exact ⟨_, exec_tick s, fun c g => congrArg Host.Outcome.next (tickOp_retimed s c g)⟩

/-- A run of `FIRE`s and `TICK`s completes, and does the same whatever the counters are. -/
theorem execAll_retimed {is : List Instr} (hall : ∀ i ∈ is, IsFireOrTick i) (s : State) :
    ∃ t, execAll is s = .next t ∧ ∀ c g, execAll is (s.retimed c g) = .next (t.retimed c g) := by
  induction is generalizing s with
  | nil => exact ⟨s, rfl, fun _ _ => rfl⟩
  | cons i is ih =>
    obtain ⟨hi, his⟩ := List.forall_mem_cons.mp hall
    obtain ⟨u, hu, hu'⟩ := exec_retimed hi s
    obtain ⟨t, ht, ht'⟩ := ih his u
    exact ⟨t, execAll_cons_next.mpr ⟨u, hu, ht⟩, fun c g => execAll_cons_next.mpr ⟨_, hu' c g, ht' c g⟩⟩

end Sys2Proof.Machine
end

section
/-! The strobe as a run of events (R174, R177): one `FIRE` for each due entry at the head of `pending`, then the `TICK`. -/

namespace Sys2Proof.Machine

/-- How many entries at the head of the list fall due at the next strobe. -/
def dueCount (p : List Pending) : Nat := (p.takeWhile fun e => e.remaining ≤ 1).length

/-- The `TICK` of the next strobe, if there is one (R175). -/
def ticksDue (s : State) : List Instr := if s.running = true ∧ s.tickCnt = 99 then [.tick] else []

/-- The tick counter after the next strobe (R175). -/
def nextTickCnt (s : State) : Nat :=
  if s.running = true then (if s.tickCnt = 99 then 0 else s.tickCnt + 1) else s.tickCnt

/-- The events of the untimed model that the next strobe stands for (R178). -/
def strobeEvents (s : State) : List Instr := List.replicate (dueCount s.pending) .fire ++ ticksDue s

theorem dueCount_le_length (p : List Pending) : dueCount p ≤ p.length := (List.takeWhile_sublist _).length_le

theorem ticksDue_cases (s : State) : ticksDue s = [] ∨ (ticksDue s = [.tick] ∧ s.running = true) := by
  unfold ticksDue
  split
  next h => exact .inr ⟨rfl, h.1⟩
  next => exact .inl rfl

theorem strobeEvents_fireOrTick (s : State) : ∀ i ∈ strobeEvents s, IsFireOrTick i := by
  intro i hi
  rcases List.mem_append.mp hi with hfire | htick
  · exact .inl (List.eq_of_mem_replicate hfire)
  · rcases ticksDue_cases s with e | ⟨e, -⟩ <;> simp [e] at htick
    exact .inr htick

theorem exec_tb (s : State) : exec .tb s = .next (strobe s) := rfl

theorem countDown_eq_retimed (s : State) : countDown s = s.retimed s.tickCnt (· - 1) := rfl

/-- A run that begins with one instruction many times over begins with the iteration of what the instruction does. -/
theorem execAll_replicate_append {i : Instr} {f : State → State} (hf : ∀ s, exec i s = .next (f s)) (n : Nat)
    (is : List Instr) (s : State) : execAll (List.replicate n i ++ is) s = execAll is (f^[n] s) := by
  induction n generalizing s with
  | zero => rfl
  | succ n ih => rw [List.replicate_succ, List.cons_append, execAll, hf, Function.iterate_succ_apply, ← ih]

/-- One instruction many times over. -/
theorem execAll_replicate {i : Instr} {f : State → State} (hf : ∀ s, exec i s = .next (f s)) (n : Nat) (s : State) :
    execAll (List.replicate n i) s = .next (f^[n] s) := by
  simpa [execAll] using execAll_replicate_append hf n [] s

/-- The due firings of a strobe are one `FIRE` for each leading entry with no strobe left. -/
theorem fireDue_eq_iterate (n : Nat) (s : State) (hn : s.pending.length ≤ n) :
    fireDue n s = fireOp^[(s.pending.takeWhile fun e => e.remaining = 0).length] s := by
  induction n generalizing s with
  | zero => simp [List.length_eq_zero_iff.mp (Nat.le_zero.mp hn), fireDue]
  | succ n ih =>
    unfold fireDue
    split
    next hp => simp [hp]
    next e rest hp =>
      split
      next hdue => rw [ih _ (by simp [hp] at hn ⊢; omega)]; simp [hp, hdue]
      next hdue => simp [hp, hdue]

/-- The entries that the count down leaves with nothing are the ones that had at most one strobe left. -/
theorem fireDue_countDown (s : State) :
    fireDue s.pending.length (countDown s) = fireOp^[dueCount s.pending] (countDown s) := by
  rw [fireDue_eq_iterate _ _ (by simp)]
  simp [List.takeWhile_map, Function.comp_def, dueCount, Nat.sub_eq_zero_iff_le]

/-- The scheduler's half of a strobe advances the counter and runs the `TICK` if it is due. -/
theorem schedulerStrobe_eq_execAll (s : State) :
    .next (schedulerStrobe s) = execAll (ticksDue s) { s with tickCnt := nextTickCnt s } := by
  rcases schedulerStrobe_cases s with ⟨hstopped, e⟩ | ⟨hrun, hc, e⟩ | ⟨hrun, hc, e⟩ <;> rw [e]
  · have hquiet : ticksDue s = [] := by simp [ticksDue, hstopped]
    have hstill : nextTickCnt s = s.tickCnt := by simp [nextTickCnt, hstopped]
    rw [hquiet, hstill]
    rfl
  · simp [ticksDue, nextTickCnt, hrun, hc, execAll, exec_tick]
  · simp [ticksDue, nextTickCnt, hrun, hc, execAll]

theorem fireOp_iterate_retimed (n : Nat) (s : State) (c : Nat) (g : Nat → Nat) :
    fireOp^[n] (s.retimed c g) = (fireOp^[n] s).retimed c g :=
  have hone : Function.Semiconj (State.retimed · c g) fireOp fireOp := fun u => (fireOp_retimed u c g).symm
  (hone.iterate_right n s).symm

/-- In every state a strobe is its events, run from the state with the counters advanced. -/
theorem exec_tb_eq_execAll (s : State) :
    exec .tb s = execAll (strobeEvents s) (s.retimed (nextTickCnt s) (· - 1)) := by
  let fired := fireDue s.pending.length (countDown s)
  have hfired : fired = (fireOp^[dueCount s.pending] s).retimed s.tickCnt (· - 1) := by
    rw [← fireOp_iterate_retimed, ← countDown_eq_retimed]
    exact fireDue_countDown s
  have hticks : ticksDue fired = ticksDue s := by simp [ticksDue, fired]
  have hcnt : nextTickCnt fired = nextTickCnt s := by simp [nextTickCnt, fired]
  calc exec .tb s
    _ = .next (schedulerStrobe fired) := rfl
    _ = execAll (ticksDue s) { fired with tickCnt := nextTickCnt s } := by
      rw [schedulerStrobe_eq_execAll, hticks, hcnt]
    _ = execAll (ticksDue s) ((fireOp^[dueCount s.pending] s).retimed (nextTickCnt s) (· - 1)) := by
      rw [hfired]
      rfl
    _ = execAll (strobeEvents s) (s.retimed (nextTickCnt s) (· - 1)) := by
      rw [strobeEvents, execAll_replicate_append exec_fire, fireOp_iterate_retimed]

/-- Settles O42: the strobe's own events, run with the counters advanced and run with the counters as they are. -/
theorem timedStrobeIsUntimedRun : Obligations.TimedStrobeIsUntimedRun := by
  intro s
  obtain ⟨u, huntimed, htimed⟩ := execAll_retimed (strobeEvents_fireOrTick s) s
  exact ⟨dueCount s.pending, ticksDue s, _, u, dueCount_le_length s.pending, ticksDue_cases s,
    (exec_tb_eq_execAll s).trans (htimed _ _), huntimed, untimedView_retimed u _ _⟩

/-- In a sorted list the entries with at most `k` strobes left stand at the head, and the others behind them. -/
theorem takeWhile_dropWhile_of_sorted {p : List Pending} (hsorted : p.Pairwise fun e f => e.remaining ≤ f.remaining)
    (k : Nat) :
    (p.takeWhile fun e => e.remaining ≤ k) = (p.filter fun e => e.remaining ≤ k) ∧
      (p.dropWhile fun e => e.remaining ≤ k) = p.filter fun e => k < e.remaining := by
  induction p with
  | nil => exact ⟨rfl, rfl⟩
  | cons e rest ih =>
    obtain ⟨hhead, hrest⟩ := List.pairwise_cons.mp hsorted
    by_cases hdue : e.remaining ≤ k
    · simpa [hdue] using ih hrest
    · have hlater : ∀ f ∈ rest, k < f.remaining := fun f hf => (Nat.lt_of_not_le hdue).trans_le (hhead f hf)
      have hnone : (rest.filter fun e => e.remaining ≤ k) = [] := by simpa using hlater
      have hall : (rest.filter fun e => k < e.remaining) = rest := by simpa using hlater
      simp [hdue, hnone, hall, Nat.lt_of_not_le hdue]

/-- Under R38 c the due entries at the head are all that have one strobe left. -/
theorem dueCount_eq_countP {p : List Pending} (h : PendingOk p) :
    dueCount p = p.countP fun e => e.remaining = 1 := by
  obtain ⟨hbound, hsorted⟩ := h
  rw [dueCount, (takeWhile_dropWhile_of_sorted hsorted 1).1, ← List.countP_eq_length_filter]
  refine List.countP_congr fun e he => ?_
  have := (hbound e he).1
  simp only [decide_eq_true_eq]
  omega

/-- Settles O38: the events of the strobe, with the due entries counted over the whole list. -/
theorem strobeIsFiresThenTick : Obligations.StrobeIsFiresThenTick := by
  intro s h
  rw [← dueCount_eq_countP h]
  exact exec_tb_eq_execAll s

end Sys2Proof.Machine
end

section
/-! Strobes in which nothing falls due (R174 to R176), and the phase of the ticks after `START` (R175). -/

namespace Sys2Proof.Machine

theorem dueCount_of_none_due {p : List Pending} (h : ∀ e ∈ p, 1 < e.remaining) : dueCount p = 0 := by
  cases p with
  | nil => rfl
  | cons e rest => simp [dueCount, Nat.not_le.mpr (h e List.mem_cons_self)]

/-- With no entry due the events of a strobe are its `TICK`, or none. -/
theorem strobeEvents_of_none_due {s : State} (h : ∀ e ∈ s.pending, 1 < e.remaining) : strobeEvents s = ticksDue s := by
  simp [strobeEvents, dueCount_of_none_due h]

/-- A strobe with nothing due advances the counters. -/
theorem exec_tb_of_quiet {s : State} (hpend : ∀ e ∈ s.pending, 1 < e.remaining) (htick : ticksDue s = []) :
    exec .tb s = .next (s.retimed (nextTickCnt s) (· - 1)) := by
  rw [exec_tb_eq_execAll, strobeEvents_of_none_due hpend, htick]
  rfl

/-- Settles O37: with no entry due and no tick, only the counters move. -/
theorem quietStrobeOnlyCounts : Obligations.QuietStrobeOnlyCounts := by
  refine fun s hpend => ⟨fun hstopped => ?_, fun hrun hcnt => ?_⟩
  · have hstill : nextTickCnt s = s.tickCnt := by simp [nextTickCnt, hstopped]
    rw [exec_tb_of_quiet hpend (by simp [ticksDue, hstopped]), hstill]
    rfl
  · have hnext : nextTickCnt s = s.tickCnt + 1 := by simp [nextTickCnt, hrun, hcnt.ne]
    rw [exec_tb_of_quiet hpend (by simp [ticksDue, hcnt.ne]), hnext]
    rfl

/-- The state after `START` once the tick counter has come to `n`, as long as only the counter moves. -/
def startedFor (n : Nat) (s : State) : State :=
  { s with chA := .idle, chB := .idle, running := true, tickCnt := n }

theorem exec_start (s : State) : exec .start s = .next (startedFor 0 s) := rfl

section
variable {s : State} (hpend : s.pending = [])
include hpend

theorem startedFor_retimed (n c : Nat) (g : Nat → Nat) : (startedFor n s).retimed c g = startedFor c s := by
  simp [startedFor, State.retimed, hpend]

theorem startedFor_none_due (n : Nat) : ∀ e ∈ (startedFor n s).pending, 1 < e.remaining := by
  simp [startedFor, hpend]

/-- Below 99 a strobe advances the counter (R175). -/
theorem strobe_startedFor {n : Nat} (hn : n < 99) : strobe (startedFor n s) = startedFor (n + 1) s := by
  have hquiet : ticksDue (startedFor n s) = [] := by simp [ticksDue, startedFor, hn.ne]
  have hnext : nextTickCnt (startedFor n s) = n + 1 := by simp [nextTickCnt, startedFor, hn.ne]
  have hrun := exec_tb_of_quiet (startedFor_none_due hpend n) hquiet
  rw [startedFor_retimed hpend, hnext] at hrun
  exact Host.Outcome.next.inj hrun

theorem strobe_iterate_startedFor {n : Nat} (hn : n ≤ 99) : strobe^[n] (startedFor 0 s) = startedFor n s := by
  induction n with
  | zero => rfl
  | succ n ih => rw [Function.iterate_succ_apply', ih (by omega), strobe_startedFor hpend (by omega)]

/-- At 99 a strobe clears the counter and ticks; with both channels `Idle` the tick is a poll (R171, R175). -/
theorem strobe_startedFor_last : strobe (startedFor 99 s) = afterSend Config.zero9 (startedFor 0 s) := by
  have hrun : exec .tb (startedFor 99 s) = execAll [.tick] (startedFor 0 s) := by
    rw [exec_tb_eq_execAll, strobeEvents_of_none_due (startedFor_none_due hpend 99), startedFor_retimed hpend]
    rfl
  have hpoll : tickPayload (startedFor 0 s) = Config.zero9 := rfl
  rw [Host.Outcome.next.inj hrun, tickOp_of_running rfl, hpoll]

end

theorem execAll_start_strobes (n : Nat) (s : State) :
    execAll (.start :: List.replicate n .tb) s = .next (strobe^[n] (startedFor 0 s)) := by
  rw [execAll, exec_start]
  exact execAll_replicate exec_tb n _

/-- Settles O41: 99 strobes only count, and the one after them ticks. -/
theorem firstTickWithHundredthStrobe : Obligations.FirstTickWithHundredthStrobe := by
  intro s hpend
  have h99 : strobe^[99] (startedFor 0 s) = startedFor 99 s := strobe_iterate_startedFor hpend le_rfl
  have h100 : strobe^[100] (startedFor 0 s) = afterSend Config.zero9 (startedFor 0 s) := by
    rw [Function.iterate_succ_apply', h99, strobe_startedFor_last hpend]
  rw [execAll_start_strobes, execAll_start_strobes, h99, h100]
  exact ⟨rfl, rfl⟩

end Sys2Proof.Machine
end

section
/-! The deferred countdown over many strobes (R176). -/

namespace Sys2Proof.Machine

/-- The entries with more than `n` strobes left, each `n` lower. -/
def elapse (n : Nat) (p : List Pending) : List Pending :=
  (p.filter fun e => n < e.remaining).map fun e => { e with remaining := e.remaining - n }

/-- No entry has none left. -/
theorem elapse_zero {p : List Pending} (h : PendingOk p) : elapse 0 p = p := by
  have hall : (p.filter fun e => 0 < e.remaining) = p :=
    List.filter_eq_self.mpr fun e he => decide_eq_true (h.1 e he).1
  simp [elapse, hall]

/-- Counts that run out on the way are gone at the end. -/
theorem elapse_elapse (m n : Nat) (p : List Pending) : elapse m (elapse n p) = elapse (n + m) p := by
  have hpred (e : Pending) : (m < e.remaining - n ∧ n < e.remaining) ↔ n + m < e.remaining := by omega
  simp [elapse, List.filter_map, Function.comp_def, ← Bool.decide_and, hpred, Nat.sub_sub]

/-- One strobe takes the due entries off and counts the others down. -/
theorem strobe_pending {s : State} (h : PendingOk s.pending) : (strobe s).pending = elapse 1 s.pending := by
  simp only [strobe, schedulerStrobe_pending]
  rw [fireDue_pending _ _ (by simp), State.countDown_pending, List.dropWhile_map]
  simp only [Function.comp_def, Nat.sub_eq_zero_iff_le]
  rw [(takeWhile_dropWhile_of_sorted h.2 1).2]
  rfl

theorem strobe_iterate_pending (n : Nat) {s : State} (h : PendingOk s.pending) :
    (strobe^[n] s).pending = elapse n s.pending := by
  induction n generalizing s with
  | zero => exact (elapse_zero h).symm
  | succ n ih =>
    rw [Function.iterate_succ_apply, ih (strobe_keeps_PendingOk h), strobe_pending h, elapse_elapse, Nat.add_comm]

/-- Settles O39: the strobes complete, and each of them lets one pass. -/
theorem deferredCountdownIsExact : Obligations.DeferredCountdownIsExact :=
  fun n s h => ⟨_, execAll_replicate exec_tb n s, strobe_iterate_pending n h⟩

end Sys2Proof.Machine
end

section
/-! The verbs that write registers (R191 to R194), and the verbatim write (R196). -/

namespace Sys2Proof.Machine

/-- Settles O1: the meaning of each verb is the update of its rule. -/
theorem sessionVerbsWriteTheirRegisters : Obligations.SessionVerbsWriteTheirRegisters :=
  fun _ => ⟨rfl, rfl, rfl, rfl⟩

theorem exec_sendraw (f : Frame) (s : State) : exec (.sendraw f) s = .next (writeRaw f s) := rfl

/-- Behind the write itself only the report of its failure can stand (R213; log 13). -/
theorem wireItems_eq_tx_cons (marks : List Bool) (f : Frame) :
    ∃ reports : List Output, (∀ r ∈ reports, r = .report .ioWr) ∧ wireItems marks f = .tx f :: reports := by
  refine ⟨_, fun r hr => ?_, rfl⟩
  split at hr
  · exact List.mem_singleton.mp hr
  · cases hr

/-- A guarded write is attempted once with the transport open and not at all with it closed. -/
theorem writeRaw_wroteGuarded (f : Frame) (s : State) : wroteGuarded s.isOpen f s.trace (writeRaw f s).trace := by
  rcases writeRaw_cases f s with ⟨hopen, e⟩ | ⟨hclosed, e⟩ <;> rw [e]
  · obtain ⟨reports, hreports, hitems⟩ := wireItems_eq_tx_cons s.writeMarks f
    exact ⟨reports, hreports, by simp [hopen, hitems]⟩
  · exact ⟨[], by simp, by simp [hclosed]⟩

/-- A guarded write changes the trace and the environment's marks only. -/
theorem writeRaw_frame (f : Frame) (s : State) :
    writeRaw f s = { s with trace := (writeRaw f s).trace, writeMarks := (writeRaw f s).writeMarks } := by
  rcases writeRaw_cases f s with ⟨-, e⟩ | ⟨-, e⟩
  · rw [e]
    rfl
  · rw [e]

/-- Settles O3: `SENDRAW` is the guarded write of its bytes. -/
theorem sendrawWritesVerbatim : Obligations.SendrawWritesVerbatim := fun f s =>
  ⟨⟨_, exec_sendraw f s, writeRaw_wroteGuarded f s, writeRaw_frame f s⟩,
    fun hclosed => congrArg Host.Outcome.next (writeRaw_of_closed hclosed f)⟩

end Sys2Proof.Machine
end

section
/-! One step, by what the decoder answers (R89, R233; logs 1 to 3). -/

namespace Sys2Proof.Machine

/-- A word the decoder reads is run. -/
theorem step_of_ok {s : State} {i : Instr} {rest : List Byte} (h : decode s.inFmt s.script = .ok i rest) :
    step s = exec i (s.taken rest) := by
  simp only [step, h]

/-- With no event waiting the block waits (log 2). -/
theorem step_of_idle {s : State} (hfmt : s.inFmt = .evt) (hscript : s.script = []) : step s = .next s := by
  have hnone : decode s.inFmt s.script = .bad .noWord := by
    rw [hfmt, hscript]
    rfl
  simp only [step, hnone, if_pos (And.intro hscript hfmt)]

/-- An objection to a word that is there is a refusal. A format other than that of events makes even the empty script a
word that is there. -/
theorem step_of_objection {s : State} {why : DecodeError} (h : decode s.inFmt s.script = .bad why)
    (hword : s.inFmt ≠ .evt ∨ s.script ≠ []) : step s = .refused (.illFormedScript why) := by
  have hthere : ¬(s.script = [] ∧ s.inFmt = .evt) := fun ⟨hscript, hfmt⟩ =>
    hword.elim (absurd hfmt) (absurd hscript)
  simp only [step, h, if_neg hthere]

/-- Settles O50, by what the decoder answers. -/
theorem stepRunsTheDecodedInstruction : Obligations.StepRunsTheDecodedInstruction :=
  ⟨fun _ _ _ => step_of_ok, fun _ => step_of_idle, fun _ _ => step_of_objection⟩

end Sys2Proof.Machine
end

section
/-! No instruction reads the script (logs 1, 3): each operation does the same whatever bytes wait on the port. -/

namespace Sys2Proof.Machine

section
variable (s : State) (rest : List Byte)

@[simp] theorem State.taken_taken (l : List Byte) : (s.taken l).taken rest = s.taken rest := rfl

@[simp] theorem State.ch_taken (x : Chan) : (s.taken rest).ch x = s.ch x := by cases x <;> rfl

@[simp] theorem State.taken_evalEnabled : (s.taken rest).evalEnabled = s.evalEnabled := rfl

@[simp] theorem State.taken_setCh (x : Chan) (v : ChState) : (s.taken rest).setCh x v = (s.setCh x v).taken rest := by
  cases x <;> rfl

@[simp] theorem State.taken_arm (x : Chan) : (s.taken rest).arm x = (s.arm x).taken rest := rfl

@[simp] theorem State.taken_emitSink (f : Frame) : (s.taken rest).emitSink f = (s.emitSink f).taken rest := rfl

@[simp] theorem State.taken_withRxbuf (buf : List Byte) :
    (s.taken rest).withRxbuf buf = (s.withRxbuf buf).taken rest := rfl

@[simp] theorem writeRaw_taken (f : Frame) : writeRaw f (s.taken rest) = (writeRaw f s).taken rest := by
  unfold writeRaw
  rw [State.taken_isOpen]
  split <;> rfl

@[simp] theorem sendOp_taken (p : Payload) : sendOp p (s.taken rest) = (sendOp p s).taken rest :=
  writeRaw_taken s rest (commandFrame p)

@[simp] theorem stepChannel_taken (x : Chan) (t : Bool) :
    stepChannel x t (s.taken rest) = (stepChannel x t s).taken rest := by
  unfold stepChannel
  rw [State.ch_taken]
  split <;> simp

@[simp] theorem guardedStep_taken (x other : Chan) (t : Bool) :
    guardedStep x other t (s.taken rest) = (guardedStep x other t s).taken rest := by
  unfold guardedStep
  rw [State.ch_taken]
  split <;> simp

@[simp] theorem evalOp_taken (f : Frame) : evalOp f (s.taken rest) = (evalOp f s).taken rest := by
  simp [evalOp]

@[simp] theorem consumeFrame_taken (f : Frame) : consumeFrame (s.taken rest) f = (consumeFrame s f).taken rest := by
  unfold consumeFrame
  rw [State.taken_evalEnabled]
  split <;> simp

@[simp] theorem consumeAll_taken (fs : List Frame) :
    fs.foldl consumeFrame (s.taken rest) = (fs.foldl consumeFrame s).taken rest :=
  List.foldl_hom (State.taken · rest) fun u f => consumeFrame_taken u rest f

theorem receive_taken (c : List Byte) : receive c (s.taken rest) = (receive c s).taken rest := by
  cases h : s.isOpen with
  | false => rw [receive_of_closed h, receive_of_closed (s := s.taken rest) h]
  | true =>
    rw [receive_of_open h, receive_of_open (s := s.taken rest) h]
    simp

theorem fireOp_taken : fireOp (s.taken rest) = (fireOp s).taken rest := by
  cases hp : s.pending with
  | nil => simp [fireOp, hp]
  | cons e later =>
    rw [fireOp_of_cons hp, fireOp_of_cons (s := s.taken rest) hp, ← sendOp_taken, ← State.taken_setCh]
    rfl

theorem fireDue_taken (n : Nat) : fireDue n (s.taken rest) = (fireDue n s).taken rest := by
  induction n generalizing s with
  | zero => rfl
  | succ n ih =>
    simp only [fireDue, State.taken_pending, fireOp_taken, ih]
    split
    · rfl
    · split <;> rfl

theorem tickOp_taken : tickOp (s.taken rest) = (tickOp s).taken rest := by
  unfold tickOp
  rw [State.taken_running]
  split
  · exact sendOp_taken s rest (tickPayload s)
  · rfl

theorem schedulerStrobe_taken : schedulerStrobe (s.taken rest) = (schedulerStrobe s).taken rest := by
  unfold schedulerStrobe
  rw [State.taken_running, State.taken_tickCnt]
  split
  · split
    · exact tickOp_taken { s with tickCnt := 0 } rest
    · rfl
  · rfl

theorem strobe_taken : strobe (s.taken rest) = (strobe s).taken rest := by
  have hcount : countDown (s.taken rest) = (countDown s).taken rest := rfl
  rw [strobe, hcount, State.taken_pending, fireDue_taken, schedulerStrobe_taken]
  rfl

end

/-- What an instruction answers in one state it answers with any script on the port, and leaves that script there. -/
theorem exec_taken {i : Instr} {s t : State} (h : exec i s = .next t) (rest : List Byte) :
    exec i (s.taken rest) = .next (t.taken rest) := by
  cases i
  case encode a c payload =>
    by_cases hlen : payload.length = 9
    · rw [exec_encode a c ⟨payload, hlen⟩] at h ⊢
      obtain rfl := Host.Outcome.next.inj h
      rfl
    · cases (encodeRefusesOtherLengths a c payload s hlen).symm.trans h
  all_goals
    obtain rfl := Host.Outcome.next.inj h
    apply congrArg Host.Outcome.next
  case connect | disconnect | start | stop | rxfail | crc16 | decode => rfl
  case sendcmd | sendraw | send | txframe | txframeEncode | txframePoll => exact writeRaw_taken s rest _
  case rx | rxframe | rxframeTrigb | rxframeTriga => exact receive_taken s rest _
  case tb => exact strobe_taken s rest
  case tick => exact tickOp_taken s rest
  case fire => exact fireOp_taken s rest
  case eval f => exact evalOp_taken s rest f

theorem execAll_taken {is : List Instr} {s t : State} (h : execAll is s = .next t) (rest : List Byte) :
    execAll is (s.taken rest) = .next (t.taken rest) := by
  induction is generalizing s with
  | nil =>
    obtain rfl := Host.Outcome.next.inj h
    rfl
  | cons i is ih =>
    obtain ⟨u, hi, his⟩ := execAll_cons_next.mp h
    exact execAll_cons_next.mpr ⟨_, exec_taken hi rest, ih his⟩

end Sys2Proof.Machine
end

section
/-! A script (R89, R198): its byte form is read back, and a run of steps over it is the fold of its events. -/

namespace Sys2Proof.Machine

/-- What a script lists: well-formed events (R89). -/
def IsScriptEvent (i : Instr) : Prop := i.fmt = .evt ∧ i.wellFormed = true

/-- An event always completes: the one refusal of an instruction is that of the function row `ENCODE` (R121). -/
theorem exec_event_next {i : Instr} (hi : i.fmt = .evt) (s : State) : ∃ t, exec i s = .next t := by
  cases i
  case encode => cases hi
  all_goals exact ⟨_, rfl⟩

theorem execAll_events_next {events : List Instr} (hall : ∀ i ∈ events, IsScriptEvent i) (s : State) :
    ∃ t, execAll events s = .next t := by
  induction events generalizing s with
  | nil => exact ⟨s, rfl⟩
  | cons i is ih =>
    obtain ⟨⟨hfmt, -⟩, his⟩ := List.forall_mem_cons.mp hall
    obtain ⟨u, hu⟩ := exec_event_next hfmt s
    obtain ⟨t, ht⟩ := ih his u
    exact ⟨t, execAll_cons_next.mpr ⟨u, hu, ht⟩⟩

theorem scriptBytes_cons (i : Instr) (is : List Instr) : scriptBytes (i :: is) = encode i ++ scriptBytes is :=
  List.flatMap_cons

/-- The word of a script's event is read back whatever follows it. -/
theorem IsScriptEvent.decode_encode {i : Instr} (hi : IsScriptEvent i) (rest : List Byte) :
    decode .evt (encode i ++ rest) = .ok i rest := by
  obtain ⟨hfmt, hwf⟩ := hi
  rw [← hfmt]
  exact decodeOfEncodeIsIdentity i rest hwf

/-- An event has a byte: no word at all is no event. -/
theorem IsScriptEvent.encode_ne_nil {i : Instr} (hi : IsScriptEvent i) : encode i ≠ [] := by
  intro hnil
  have hread := hi.decode_encode []
  rw [hnil] at hread
  cases hread

/-- As many turns as there are bytes are enough to read a script. -/
theorem readScript_scriptBytes {events : List Instr} (hall : ∀ i ∈ events, IsScriptEvent i) (n : Nat)
    (hn : (scriptBytes events).length ≤ n) : readScript n (scriptBytes events) = some events := by
  induction events generalizing n with
  | nil => cases n <;> rfl
  | cons i is ih =>
    obtain ⟨hi, his⟩ := List.forall_mem_cons.mp hall
    have hread : decodeEvt (encode i ++ scriptBytes is) = .ok i (scriptBytes is) := hi.decode_encode _
    obtain ⟨b, operand, hword⟩ := List.exists_cons_of_ne_nil hi.encode_ne_nil
    rw [scriptBytes_cons, hword] at hn ⊢
    rw [hword] at hread
    cases n with
    | zero => simp at hn
    | succ n =>
      have hlater : (scriptBytes is).length ≤ n := by simp at hn; omega
      simp only [List.cons_append] at hread ⊢
      rw [readScript, hread]
      simp [ih his n hlater]

/-- With a script's event at the head of the port a step runs it and leaves the script behind it. -/
theorem step_scriptEvent {i : Instr} (hi : IsScriptEvent i) {s t : State} (h : exec i s = .next t) (rest : List Byte) :
    step (s.taken (encode i ++ rest)) = .next (t.taken rest) :=
  (step_of_ok (hi.decode_encode rest)).trans (exec_taken h rest)

/-- A run takes its first step and goes on from there. -/
theorem run_succ_of_next {s t : State} (h : step s = .next t) (k : Nat) : core.run (k + 1) s = core.run k t := by
  have hstep : core.step s = .next t := h
  simp only [Host.Core.run, hstep]

/-- The run of a script follows the fold event by event, whatever script the fold started on. -/
theorem run_scriptBytes {events : List Instr} (hall : ∀ i ∈ events, IsScriptEvent i) {s t : State}
    (h : execAll events s = .next t) :
    core.run events.length (s.taken (scriptBytes events)) = .next (t.taken []) := by
  induction events generalizing s with
  | nil =>
    obtain rfl := Host.Outcome.next.inj h
    rfl
  | cons i is ih =>
    obtain ⟨hi, his⟩ := List.forall_mem_cons.mp hall
    obtain ⟨u, hu, hrest⟩ := execAll_cons_next.mp h
    rw [scriptBytes_cons, List.length_cons, run_succ_of_next (step_scriptEvent hi hu _)]
    exact ih his hrest

/-- Settles O52: the fold completes, it does the same with an empty port, and the steps follow it event by event. -/
theorem scriptRunIsFoldOfEvents : Obligations.ScriptRunIsFoldOfEvents := by
  intro events s hfmt hall
  have hport (l : List Byte) : { s with script := l } = s.taken l := by rw [State.taken, ← hfmt]
  obtain ⟨t, ht⟩ := execAll_events_next hall s
  refine ⟨readScript_scriptBytes hall _ le_rfl, t.taken [], ?_, ?_⟩
  · rw [hport]
    exact execAll_taken ht []
  · rw [hport]
    exact run_scriptBytes hall ht

end Sys2Proof.Machine
end

section
/-! What becomes of a write feeds nothing back (R213, R214; log 13): every operation commutes with striking the marks of
failed writes and the reports that they led to. -/

namespace Sys2Proof.Machine

/-- Not the report of a failed write (R213). -/
def notWriteReport : Output → Bool
  | .report .ioWr => false
  | _ => true

/-- The state as it would be had no write failed and were none to fail: no mark left, and no REPORT(3) in the trace. -/
def State.withoutFailures (s : State) : State := { s with trace := s.trace.filter notWriteReport, writeMarks := [] }

/-- Striking the reports leaves every write and every delivery in the trace. -/
theorem txs_sinks_filter_notWriteReport (o : List Output) :
    txs (o.filter notWriteReport) = txs o ∧ sinks (o.filter notWriteReport) = sinks o := by
  induction o with
  | nil => exact ⟨rfl, rfl⟩
  | cons item o ih =>
    obtain ⟨htxs, hsinks⟩ := ih
    cases item with
    | tx f => exact ⟨congrArg (f :: ·) htxs, hsinks⟩
    | sink f p => exact ⟨htxs, congrArg (f :: ·) hsinks⟩
    | report code => cases code <;> exact ⟨htxs, hsinks⟩

/-- The marks of a write decide nothing but its report. -/
theorem filter_wireItems (marks : List Bool) (f : Frame) :
    (wireItems marks f).filter notWriteReport = wireItems [] f := by
  unfold wireItems
  cases marks.headD false <;> rfl

section
variable (s : State)

@[simp] theorem State.withoutFailures_isOpen : s.withoutFailures.isOpen = s.isOpen := rfl
@[simp] theorem State.withoutFailures_running : s.withoutFailures.running = s.running := rfl
@[simp] theorem State.withoutFailures_tickCnt : s.withoutFailures.tickCnt = s.tickCnt := rfl
@[simp] theorem State.withoutFailures_pending : s.withoutFailures.pending = s.pending := rfl
@[simp] theorem State.withoutFailures_cfg : s.withoutFailures.cfg = s.cfg := rfl
@[simp] theorem State.withoutFailures_evalEnabled : s.withoutFailures.evalEnabled = s.evalEnabled := rfl
@[simp] theorem State.ch_withoutFailures (x : Chan) : s.withoutFailures.ch x = s.ch x := by cases x <;> rfl

@[simp] theorem State.withoutFailures_setCh (x : Chan) (v : ChState) :
    s.withoutFailures.setCh x v = (s.setCh x v).withoutFailures := by
  cases x <;> rfl

@[simp] theorem State.withoutFailures_arm (x : Chan) : s.withoutFailures.arm x = (s.arm x).withoutFailures := rfl

@[simp] theorem State.withoutFailures_withRxbuf (buf : List Byte) :
    s.withoutFailures.withRxbuf buf = (s.withRxbuf buf).withoutFailures := rfl

@[simp] theorem State.withoutFailures_emitSink (f : Frame) :
    s.withoutFailures.emitSink f = (s.emitSink f).withoutFailures := by
  simp [State.withoutFailures, State.emitSink, List.filter_cons, notWriteReport]

/-- The report of a failed read (R212) is none of a failed write. -/
theorem State.withoutFailures_report_ioRd :
    s.withoutFailures.report .ioRd = (s.report .ioRd).withoutFailures := by
  simp [State.withoutFailures, State.report, List.filter_cons, notWriteReport]

/-- The write itself, the one operation that reads the marks. -/
theorem State.withoutFailures_emitTx (f : Frame) : s.withoutFailures.emitTx f = (s.emitTx f).withoutFailures := by
  simp [State.withoutFailures, State.emitTx, filter_wireItems]

theorem writeRaw_withoutFailures (f : Frame) : writeRaw f s.withoutFailures = (writeRaw f s).withoutFailures := by
  unfold writeRaw
  rw [State.withoutFailures_isOpen]
  split
  · exact s.withoutFailures_emitTx f
  · rfl

@[simp] theorem sendOp_withoutFailures (p : Payload) :
    sendOp p s.withoutFailures = (sendOp p s).withoutFailures :=
  writeRaw_withoutFailures s (commandFrame p)

@[simp] theorem stepChannel_withoutFailures (x : Chan) (t : Bool) :
    stepChannel x t s.withoutFailures = (stepChannel x t s).withoutFailures := by
  unfold stepChannel
  rw [State.ch_withoutFailures]
  split <;> simp

@[simp] theorem guardedStep_withoutFailures (x other : Chan) (t : Bool) :
    guardedStep x other t s.withoutFailures = (guardedStep x other t s).withoutFailures := by
  unfold guardedStep
  rw [State.ch_withoutFailures]
  split <;> simp

@[simp] theorem evalOp_withoutFailures (f : Frame) : evalOp f s.withoutFailures = (evalOp f s).withoutFailures := by
  simp [evalOp]

theorem consumeFrame_withoutFailures (f : Frame) :
    consumeFrame s.withoutFailures f = (consumeFrame s f).withoutFailures := by
  unfold consumeFrame
  rw [State.withoutFailures_evalEnabled]
  split <;> simp

theorem consumeAll_withoutFailures (fs : List Frame) :
    fs.foldl consumeFrame s.withoutFailures = (fs.foldl consumeFrame s).withoutFailures :=
  List.foldl_hom State.withoutFailures fun u f => consumeFrame_withoutFailures u f

theorem receive_withoutFailures (c : List Byte) : receive c s.withoutFailures = (receive c s).withoutFailures := by
  cases h : s.isOpen with
  | false => rw [receive_of_closed h, receive_of_closed (s := s.withoutFailures) h]
  | true =>
    rw [receive_of_open h, receive_of_open (s := s.withoutFailures) h, consumeAll_withoutFailures]
    rfl

theorem fireOp_withoutFailures : fireOp s.withoutFailures = (fireOp s).withoutFailures := by
  cases hp : s.pending with
  | nil => simp [fireOp, hp]
  | cons e later =>
    rw [fireOp_of_cons hp, fireOp_of_cons (s := s.withoutFailures) hp, ← sendOp_withoutFailures,
      ← State.withoutFailures_setCh]
    rfl

theorem fireDue_withoutFailures (n : Nat) : fireDue n s.withoutFailures = (fireDue n s).withoutFailures := by
  induction n generalizing s with
  | zero => rfl
  | succ n ih =>
    simp only [fireDue, State.withoutFailures_pending, fireOp_withoutFailures, ih]
    split
    · rfl
    · split <;> rfl

theorem tickOp_withoutFailures : tickOp s.withoutFailures = (tickOp s).withoutFailures := by
  unfold tickOp
  rw [State.withoutFailures_running]
  split
  · exact sendOp_withoutFailures s (tickPayload s)
  · rfl

theorem schedulerStrobe_withoutFailures :
    schedulerStrobe s.withoutFailures = (schedulerStrobe s).withoutFailures := by
  unfold schedulerStrobe
  rw [State.withoutFailures_running, State.withoutFailures_tickCnt]
  split
  · split
    · exact tickOp_withoutFailures { s with tickCnt := 0 }
    · rfl
  · rfl

theorem strobe_withoutFailures : strobe s.withoutFailures = (strobe s).withoutFailures := by
  have hcount : countDown s.withoutFailures = (countDown s).withoutFailures := rfl
  rw [strobe, hcount, State.withoutFailures_pending, fireDue_withoutFailures, schedulerStrobe_withoutFailures]
  rfl

end

/-- An instruction is refused in every state for the same reason, or answers in every state, and then it commutes with
striking the failures. -/
theorem exec_refused_or_commutes (i : Instr) :
    (∃ r, ∀ s, exec i s = .refused r) ∨
    ∃ f : State → State, (∀ s, exec i s = .next (f s)) ∧ ∀ s, f s.withoutFailures = (f s).withoutFailures := by
  cases i
  case encode a c payload =>
    by_cases hlen : payload.length = 9
    · exact .inr ⟨_, exec_encode a c ⟨payload, hlen⟩, fun _ => rfl⟩
    · exact .inl ⟨_, fun s => encodeRefusesOtherLengths a c payload s hlen⟩
  all_goals refine .inr ⟨_, fun _ => rfl, fun s => ?_⟩
  case connect | disconnect | start | stop | crc16 | decode => rfl
  case sendcmd | sendraw | send | txframe | txframeEncode | txframePoll => exact writeRaw_withoutFailures s _
  case rx | rxframe | rxframeTrigb | rxframeTriga => exact receive_withoutFailures s _
  case rxfail => exact s.withoutFailures_report_ioRd
  case tb => exact strobe_withoutFailures s
  case tick => exact tickOp_withoutFailures s
  case fire => exact fireOp_withoutFailures s
  case eval f => exact evalOp_withoutFailures s f

/-- States that are the same once the failures are struck hold the same registers, parameters and result, and their
traces the same writes and deliveries. -/
theorem agree_of_withoutFailures_eq {t u : State} (h : u.withoutFailures = t.withoutFailures) :
    u.isOpen = t.isOpen ∧ u.running = t.running ∧ u.chA = t.chA ∧ u.chB = t.chB ∧ u.rxbuf = t.rxbuf ∧
      u.tickCnt = t.tickCnt ∧ u.pending = t.pending ∧ u.cfg = t.cfg ∧ u.result = t.result ∧
      txs u.trace = txs t.trace ∧ sinks u.trace = sinks t.trace := by
  simp only [State.withoutFailures, State.mk.injEq] at h
  obtain ⟨hopen, hrun, hA, hB, hbuf, hcnt, hpend, hcfg, htrace, hresult, -⟩ := h
  obtain ⟨htxsu, hsinksu⟩ := txs_sinks_filter_notWriteReport u.trace
  obtain ⟨htxst, hsinkst⟩ := txs_sinks_filter_notWriteReport t.trace
  refine ⟨hopen, hrun, hA, hB, hbuf, hcnt, hpend, hcfg, hresult, ?_, ?_⟩
  · rw [← htxsu, htrace, htxst]
  · rw [← hsinksu, htrace, hsinkst]

/-- Settles O60: the two states are the same once the failures are struck, and so are the states they are led to. -/
theorem writeOutcomeFeedsNothingBack : Obligations.WriteOutcomeFeedsNothingBack := by
  intro i s marks
  rcases exec_refused_or_commutes i with ⟨r, hrefused⟩ | ⟨f, hnext, hcommutes⟩
  · refine ⟨fun t ht => ?_, fun r' hr' => ?_⟩
    · cases (hrefused s).symm.trans ht
    · exact (hrefused _).trans ((hrefused s).symm.trans hr')
  · refine ⟨fun t ht => ⟨_, hnext _, agree_of_withoutFailures_eq ?_⟩, fun r hr => ?_⟩
    · obtain rfl := Host.Outcome.next.inj ((hnext s).symm.trans ht)
      rw [← hcommutes, ← hcommutes]
      rfl
    · cases (hnext s).symm.trans hr

end Sys2Proof.Machine
end

section
/-! The laws of the checksum (R107): continuation, linearity, residue, and the bijection on two-byte inputs. -/

namespace Sys2Proof.Machine

/-! Continuation, leading zeros and the residue -/

/-- From the register 0 the byte step looks its byte up. -/
theorem crcStep_init (b : Byte) : crcStep Config.crcInit b = tableAt b := by
  have hhi : hiByte Config.crcInit = 0#8 := rfl
  have hshift : Config.crcInit <<< 8 = 0#16 := rfl
  rw [crcStep, hhi, hshift, BitVec.zero_xor, BitVec.zero_xor]

theorem crc16_cons (b : Byte) (l : List Byte) : crc16 (b :: l) = crcFrom (tableAt b) l := by
  rw [← crcStep_init]
  rfl

/-- A leading zero byte leaves the register at 0. -/
theorem crc16_zero_cons (l : List Byte) : crc16 (0#8 :: l) = crc16 l := by
  rw [crc16_cons, tableAt_zero]
  rfl

/-- Settles O8: the fold at its first byte, and over two sequences one after the other. -/
theorem crcContinuationAndLeadingZeros : Obligations.CrcContinuationAndLeadingZeros :=
  ⟨crc16_nil, fun i => crc16_cons i [], fun _ _ => List.foldl_append, crc16_zero_cons⟩

/-- Settles O10: the checksum's own bytes shift the register out. -/
theorem crcZeroResidue : Obligations.CrcZeroResidue := crc16_append_own_bytes

/-! Linearity -/

/-- A shift moves the register and XORs in what the feedback makes of an empty one. -/
theorem crcShift_eq (feedback : Bool) (c : Word) : crcShift feedback c = crcShift feedback 0 ^^^ c <<< 1 := by
  simpa using crcShift_xor feedback 0 c

theorem crcShift_zero_xor : ∀ f g : Bool, crcShift (f ^^ g) 0 = crcShift f 0 ^^^ crcShift g 0 := by decide

/-- One shift without input is linear: its feedback, the top bit, is. -/
theorem crcShift_msb_xor (c d : Word) :
    crcShift (c ^^^ d).msb (c ^^^ d) = crcShift c.msb c ^^^ crcShift d.msb d := by
  rw [crcShift_eq, BitVec.msb_xor, crcShift_zero_xor, BitVec.shiftLeft_xor_distrib, crcShift_eq c.msb c,
    crcShift_eq d.msb d]
  ac_rfl

theorem crcShiftOut_xor (n : Nat) (c d : Word) : crcShiftOut n (c ^^^ d) = crcShiftOut n c ^^^ crcShiftOut n d := by
  induction n with
  | zero => rfl
  | succ n ih => rw [crcShiftOut_succ, ih, crcShift_msb_xor, ← crcShiftOut_succ, ← crcShiftOut_succ]

/-- The table is linear, because the derivation of its entries is. -/
theorem tableAt_xor (a b : Byte) : tableAt (a ^^^ b) = tableAt a ^^^ tableAt b := by
  have hout (i : Byte) : tableAt i = crcShiftOut 8 (i.setWidth 16 <<< 8) := tableAt_eq_tableEntry i
  rw [hout, hout a, hout b, BitVec.setWidth_xor, BitVec.shiftLeft_xor_distrib, crcShiftOut_xor]

theorem hiByte_xor (c d : Word) : hiByte (c ^^^ d) = hiByte c ^^^ hiByte d := BitVec.extractLsb'_xor

/-- The byte step is linear in the register and the byte together. -/
theorem crcStep_xor (c d : Word) (a b : Byte) : crcStep (c ^^^ d) (a ^^^ b) = crcStep c a ^^^ crcStep d b := by
  simp only [crcStep, BitVec.shiftLeft_xor_distrib, hiByte_xor, tableAt_xor]
  ac_rfl

/-- From any two registers the fold is linear over sequences of equal length. -/
theorem crcFrom_zipWith_xor {l m : List Byte} (h : l.length = m.length) (c d : Word) :
    crcFrom (c ^^^ d) (List.zipWith (· ^^^ ·) l m) = crcFrom c l ^^^ crcFrom d m := by
  induction l generalizing m c d with
  | nil =>
    obtain rfl := List.length_eq_zero_iff.mp h.symm
    rfl
  | cons a l ih =>
    obtain ⟨b, m, rfl⟩ := List.exists_cons_of_length_eq_add_one h.symm
    have hstep := ih (Nat.succ.inj h) (crcStep c a) (crcStep d b)
    rwa [← crcStep_xor] at hstep

/-- Settles O9: the fold from the register 0, which is the XOR of itself with itself. -/
theorem crcIsLinear : Obligations.CrcIsLinear :=
  fun _ _ h => crcFrom_zipWith_xor h Config.crcInit Config.crcInit

/-! The bijection on two-byte inputs -/

theorem hiByte_append (a b : Byte) : hiByte (a ++ b) = a := BitVec.extractLsb'_append_eq_left

theorem loByte_append (a b : Byte) : loByte (a ++ b) = b := BitVec.extractLsb'_append_eq_right

/-- A one bit shift loses the top bit only. -/
theorem eq_of_msb_eq_of_shiftLeft_eq {c d : Word} (hmsb : c.msb = d.msb) (hrest : c <<< 1 = d <<< 1) : c = d := by
  have hnat := congrArg BitVec.toNat hrest
  simp only [BitVec.msb_eq_decide, decide_eq_decide] at hmsb
  simp only [BitVec.toNat_shiftLeft] at hnat
  apply BitVec.eq_of_toNat_eq
  omega

/-- The low bit after a shift is the feedback, the polynomial being odd: the shift loses no bit. -/
theorem crcShift_msb_injective : Function.Injective fun c : Word => crcShift c.msb c := by
  intro c d h
  have hlow (feedback : Bool) (w : Word) : (crcShift feedback w).getLsbD 0 = feedback := by
    cases feedback <;> simp [crcShift, Config.poly]
  have hmsb : c.msb = d.msb := by
    calc c.msb = (crcShift c.msb c).getLsbD 0 := (hlow _ _).symm
      _ = (crcShift d.msb d).getLsbD 0 := congrArg (·.getLsbD 0) h
      _ = d.msb := hlow _ _
  have hrest : c <<< 1 = d <<< 1 := by
    simp only [hmsb, crcShift_eq d.msb c, crcShift_eq d.msb d] at h
    exact (BitVec.xor_right_inj _).mp h
  exact eq_of_msb_eq_of_shiftLeft_eq hmsb hrest

theorem crcShiftOut_injective (n : Nat) : Function.Injective (crcShiftOut n) := by
  induction n with
  | zero => exact Function.injective_id
  | succ n ih =>
    have hsucc : crcShiftOut (n + 1) = (fun c => crcShift c.msb c) ∘ crcShiftOut n := funext (crcShiftOut_succ n)
    exact hsucc ▸ crcShift_msb_injective.comp ih

/-- The bits of two bytes are those of the word they make up, most significant first. -/
theorem bitsMsbFirst_append (a b : Byte) :
    bitsMsbFirst a ++ bitsMsbFirst b = (List.range 16).map (a ++ b : Word).getMsbD := by
  have hbit (k : Nat) : (a ++ b : Word).getMsbD k = if 8 ≤ k then b.getMsbD (k - 8) else a.getMsbD k :=
    BitVec.getMsbD_append
  have hrange : List.range 16 = List.range 8 ++ (List.range 8).map (8 + ·) := rfl
  rw [hrange, List.map_append, List.map_map]
  refine congrArg₂ _ (List.map_congr_left fun k hk => ?_) (List.map_congr_left fun k _ => ?_)
  · have hk : k < 8 := List.mem_range.mp hk
    simp [hbit, Nat.not_le.mpr hk]
  · simp [hbit]

/-- On two bytes the checksum is the word they make up, shifted sixteen times without input. -/
theorem crc16_pair (a b : Byte) : crc16 [a, b] = crcShiftOut 16 (a ++ b : Word) := by
  calc crc16 [a, b]
      = (bitsMsbFirst a ++ bitsMsbFirst b).foldl crcSerialBit 0#16 := (bitSerialCrcEqualsTableCrc [a, b]).symm
    _ = ((List.range 16).map ((a ++ b : Word) ^^^ 0#16).getMsbD).foldl crcSerialBit 0#16 := by
      rw [bitsMsbFirst_append, BitVec.xor_zero]
    _ = crcShiftOut 16 (a ++ b : Word) := by
      rw [crcSerial_difference, BitVec.shiftLeft_eq_zero le_rfl, BitVec.xor_zero]

/-- Settles O11: shifting out permutes the words, and the words are the pairs of bytes. -/
theorem crcBijectiveOnTwoBytes : Obligations.CrcBijectiveOnTwoBytes := by
  refine ⟨fun a b c d h => ?inj, fun v => ?surj⟩
  case inj =>
    rw [crc16_pair, crc16_pair] at h
    have hword : a ++ b = c ++ d := crcShiftOut_injective 16 h
    exact ⟨by rw [← hiByte_append a b, hword, hiByte_append], by rw [← loByte_append a b, hword, loByte_append]⟩
  case surj =>
    obtain ⟨w, hw⟩ := Finite.surjective_of_injective (crcShiftOut_injective 16) v
    exact ⟨hiByte w, loByte w, by rw [crc16_pair, hiByte_append_loByte, hw]⟩

end Sys2Proof.Machine
end

section
/-! The invariant at reset (R36), and what it says of a channel in `Breaking`: its entry fires in time (R38). -/

namespace Sys2Proof.Machine

/-- Settles O44: both channels `Idle`, buffer and list empty, the counter 0. -/
theorem resetMeetsInvariant : Obligations.ResetMeetsInvariant where
  exclusive := .inl rfl
  rxbuf := .inl rfl
  tickCnt := ⟨Nat.zero_le 99, fun _ => rfl⟩
  pending := .nil
  armed := fun x hx => by cases x <;> cases hx

/-- A firing moves a channel to `Idle` or not at all (R151). -/
theorem fireOp_ch_cases (x : Chan) (s : State) : (fireOp s).ch x = .idle ∨ (fireOp s).ch x = s.ch x := by
  rcases fireOp_cases s with ⟨-, e⟩ | ⟨head, rest, -, e⟩ <;> rw [e]
  · exact .inr rfl
  · by_cases hx : x = head.ch
    · exact .inl (hx ▸ State.ch_setCh_same _ _ _)
    · refine .inr ?_
      rw [State.ch_setCh_other _ _ hx, sendOp_ch]
      cases x <;> rfl

/-- A strobe moves a channel to `Idle` or not at all, by its due firings (R174). -/
theorem strobe_ch_cases (x : Chan) (s : State) : (strobe s).ch x = .idle ∨ (strobe s).ch x = s.ch x := by
  have hfired : (fireDue s.pending.length (countDown s)).ch x = .idle ∨
      (fireDue s.pending.length (countDown s)).ch x = s.ch x :=
    fireDue_induction (P := fun u => u.ch x = .idle ∨ u.ch x = s.ch x)
      (fun u hu => (fireOp_ch_cases x u).elim .inl fun e => e ▸ hu) _ (.inr (by cases x <;> rfl))
  simpa [strobe] using hfired

theorem strobe_iterate_ch_cases (x : Chan) (n : Nat) (s : State) :
    (strobe^[n] s).ch x = .idle ∨ (strobe^[n] s).ch x = s.ch x := by
  induction n with
  | zero => exact .inr rfl
  | succ n ih =>
    rw [Function.iterate_succ_apply']
    exact (strobe_ch_cases x _).elim .inl fun e => e ▸ ih

theorem strobe_iterate_keeps_StateInv (n : Nat) {s : State} (h : StateInv s) : StateInv (strobe^[n] s) :=
  Function.Iterate.rec StateInv h (fun _ => strobe_keeps_StateInv) n

/-- Every count is at most 1000, so 1000 strobes leave no entry. -/
theorem elapse_1000 {p : List Pending} (h : PendingOk p) : elapse 1000 p = [] := by
  have hnone : (p.filter fun e => 1000 < e.remaining) = [] :=
    List.filter_eq_nil_iff.mpr fun e he => by simpa using (h.1 e he).2
  simp [elapse, hnone]

/-- Settles O40: after 1000 strobes no entry is left, and `Breaking` without an entry is against the invariant. -/
theorem breakingEndsWithin1000Strobes : Obligations.BreakingEndsWithin1000Strobes := by
  intro x s h hbreaking
  refine ⟨1000, le_rfl, _, execAll_replicate exec_tb 1000 s, ?_⟩
  rcases strobe_iterate_ch_cases x 1000 s with hidle | hsame
  · exact hidle
  · obtain ⟨e, he, -⟩ := (strobe_iterate_keeps_StateInv 1000 h).armed x (hsame.trans hbreaking)
    rw [strobe_iterate_pending 1000 h.pending, elapse_1000 h.pending] at he
    cases he

end Sys2Proof.Machine
end

section
/-! What a write leaves in the trace, marks of failed writes included (log 13), and the outgoing frame rows (log 6). -/

namespace Sys2Proof.Machine

theorem writeRaw_of_open {s : State} (h : s.isOpen = true) (f : Frame) : writeRaw f s = s.emitTx f := by
  simp [writeRaw, h]

/-- Settles O4: with the transport open the row appends the items of the write, and those go by the first mark. -/
theorem failedWriteIsReportedAfterIt : Obligations.FailedWriteIsReportedAfterIt := by
  constructor
  · intro p s
    have hsend : .next (sendOp p s) = (.next (afterSend p s) : Host.Outcome State Fault Refusal) :=
      congrArg Host.Outcome.next (sendOp_eq_afterSend p s)
    exact ⟨hsend, hsend⟩
  · intro f s marks hopen
    have hmarked (m : List Bool) : exec (.sendraw f) { s with writeMarks := m } =
        .next (State.emitTx { s with writeMarks := m } f) :=
      congrArg Host.Outcome.next (writeRaw_of_open (s := { s with writeMarks := m }) hopen f)
    exact ⟨hmarked (true :: marks), hmarked (false :: marks), hmarked []⟩

theorem exec_txframeEncode (a c : Byte) (p : Payload) (hi lo : Byte) (s : State) :
    exec (.txframeEncode a c p hi lo) s = .next (writeRaw (tx16Bytes a c p hi lo) s) := rfl

theorem exec_txframe (p : Payload) (hi lo : Byte) (s : State) :
    exec (.txframe p hi lo) s = .next (writeRaw (tx16Bytes Config.addr Config.cmd p hi lo) s) := rfl

/-- With the two bytes of the checksum in their place the frame is the encoded one (R71). -/
theorem tx16Bytes_eq_encodeFrame {a c : Byte} {p : Payload} {hi lo : Byte}
    (h : hi ++ lo = crc16 (crcCovered a c p)) : tx16Bytes a c p hi lo = encodeFrame a c p := by
  rw [encodeFrame, ← h, hiByte_append, loByte_append]

/-- Settles O18: both rows are the guarded write of their frame, and the right checksum makes it the command frame. -/
theorem txframeRowsWriteTheirFrame : Obligations.TxframeRowsWriteTheirFrame := by
  intro a c p hi lo s
  rw [exec_txframeEncode, exec_txframe]
  refine ⟨fun hopen => ?_, fun hclosed => ?_, fun hcrc => ?_⟩
  · rw [writeRaw_of_open hopen, writeRaw_of_open hopen]
    exact ⟨rfl, rfl⟩
  · rw [writeRaw_of_closed hclosed, writeRaw_of_closed hclosed]
    exact ⟨rfl, rfl⟩
  · have hframe : tx16Bytes Config.addr Config.cmd p hi lo = commandFrame p := tx16Bytes_eq_encodeFrame hcrc
    rw [hframe, ← sendOp_eq_writeRaw, sendOp_eq_afterSend]

end Sys2Proof.Machine
end
